-- ==== Sys2Proof/Word.lean ====
section
/-! DEFINITION. The plain words of the station: lane codes, order words, channel numbers, and fixed tables. -/
namespace Sys2Proof

/-- One 8-bit audio code of the sample lane (R7, R109). -/
abbrev Code := BitVec 8

/-- One 4-bit owner code: a station number 0 to 14, or 15 for a free channel (R8). -/
abbrev OwnerCode := BitVec 4

/-- One 32-bit word of the order lane: an order, a reply or a notice (R13, R14). -/
abbrev Word := BitVec 32

/-- One byte of the serial flash (R171). -/
abbrev Byte := BitVec 8

/-- A channel position of a frame, 0 to 47. -/
abbrev Channel := Fin 48

/-- The silence code, which an undriven sample position reads too (R7, R109). -/
def silence : Code := 255

/-- The owner code of a free channel (R8). -/
def freeCode : OwnerCode := 15

/-- A fixed number of like things, held by number (channels, engines, generators, banks). -/
structure Tbl (n : Nat) (α : Type) where
  cells : Vector α n
  deriving DecidableEq, Repr

/-- Every place of the table holds the same thing. -/
def Tbl.fill (n : Nat) {α : Type} (a : α) : Tbl n α := ⟨Vector.replicate n a⟩

/-- What place `i` holds. -/
def Tbl.get {n : Nat} {α : Type} (t : Tbl n α) (i : Fin n) : α := t.cells[i]

/-- The table with place `i` holding `a`. -/
def Tbl.put {n : Nat} {α : Type} (t : Tbl n α) (i : Fin n) (a : α) : Tbl n α := ⟨t.cells.set i a⟩

/-- Every place changed by `f`. -/
def Tbl.map {n : Nat} {α β : Type} (f : α → β) (t : Tbl n α) : Tbl n β := ⟨t.cells.map f⟩

@[simp] theorem Tbl.get_put_same {n : Nat} {α : Type} (t : Tbl n α) (i : Fin n) (a : α) :
    (t.put i a).get i = a := by
  simp [Tbl.get, Tbl.put]

theorem Tbl.get_put {n : Nat} {α : Type} (t : Tbl n α) (i j : Fin n) (a : α) :
    (t.put i a).get j = if i = j then a else t.get j := by
  simp [Tbl.get, Tbl.put, Vector.getElem_set, Fin.ext_iff]

@[simp] theorem Tbl.get_put_ne {n : Nat} {α : Type} (t : Tbl n α) (i j : Fin n) (a : α) (h : i ≠ j) :
    (t.put i a).get j = t.get j := by
  simp [Tbl.get_put, h]

@[simp] theorem Tbl.get_fill {n : Nat} {α : Type} (a : α) (i : Fin n) : (Tbl.fill n a).get i = a := by
  simp [Tbl.get, Tbl.fill]

@[simp] theorem Tbl.get_map {n : Nat} {α β : Type} (f : α → β) (t : Tbl n α) (i : Fin n) :
    (t.map f).get i = f (t.get i) := by
  simp [Tbl.get, Tbl.map]

/-- The numbers 0 to `n - 1` in rising order. -/
def numbers (n : Nat) : List (Fin n) := List.finRange n

end Sys2Proof
end

