-- ==== Sys2Proof/Syntax.lean ====
section
/-! DEFINITION. The commands of the station: one constructor for each row of spec/opcode_table.json, in the
table's order. A command is one whole step of spec/95_what_each_step_holds.md. The table gives its rows no bits
and no fields; the operands here are what the shelf, the pins, the flash and the peers bring to the step. -/
namespace Sys2Proof

/-- What a notice position brings (R53). `drive` hands the pending notice to the port, `outcome others` hands back
the arbitration of the position against the words the other stations drove, and `whole others` is both at once.
The two halves let a post fall between the driving and the outcome, which R53 gives both outcomes for. -/
inductive NoticeEvent where
  | whole (others : List Word)
  | drive
  | outcome (others : List Word)
  deriving DecidableEq, Repr

/-- What a frame pulse brings (R1, R3, R4): whether it is long, and whether it comes in the middle of a store step. -/
structure Pulse where
  long : Bool
  inStep : Bool
  deriving DecidableEq, Repr

/-- The commands. -/
inductive Instr where
  /-- PIN_RESET (R42, R171): the pin reset input, with what the four station number pins read. -/
  | pinReset (pins : BitVec 4)
  /-- FRAME_PULSE (R1): a frame pulse arrives, long or short, in the middle of a store step or as one begins (R4). -/
  | framePulse (pulse : Pulse)
  /-- PULSE_LOSS (R5): the expiry of the pulse timer. -/
  | pulseLoss
  /-- LOCAL_FRAME (R6): the port marks a local frame. -/
  | localFrame
  /-- STORE_STEP (R143): one store step is taken whole. -/
  | storeStep
  /-- OWNER_POSITION (R8): the owner position of a channel, with the codes other stations drive there. -/
  | ownerPosition (channel : Nat) (others : List OwnerCode)
  /-- SAMPLE_POSITION (R10): the sample position of a channel, with the code all other drivers leave on the lane. -/
  | samplePosition (channel : Nat) (others : Code)
  /-- CONTENTION_SURRENDER (R29): the fourth contention event of a superframe on a channel. -/
  | contentionSurrender (channel : Nat)
  /-- ORDER_POSITION (R13): the order position, with the word read. -/
  | orderPosition (word : Word)
  /-- SHELF_RESET (R16): the shelf reset signal. -/
  | shelfReset
  /-- JOIN (R56): the reply position of a JOIN. -/
  | join
  /-- LEAVE (R40): the reply position of a LEAVE. -/
  | leave
  /-- PROBE (R41): the reply position of a PROBE. -/
  | probe
  /-- RECORD (R162): the reply position of a RECORD. `between` gives the codes other stations drive in the owner
  position of the channel named, where that position falls between the weighing and the take (R27). -/
  | record (between : Option (List OwnerCode))
  /-- FINISH_COMMIT (R167): the reply position of a FINISH with action COMMIT. -/
  | finishCommit
  /-- FINISH_DISCARD (R167): the reply position of a FINISH with action DISCARD. -/
  | finishDiscard
  /-- SERVICE_DRAIN (R44): the reply position of a SERVICE with action DRAIN. -/
  | serviceDrain
  /-- SERVICE_FORCE (R47): the reply position of a SERVICE with action FORCE. -/
  | serviceForce
  /-- SERVICE_RETURN (R46): the reply position of a SERVICE with action RETURN. -/
  | serviceReturn
  /-- SERVICE_NONE (R48): the reply position of a SERVICE with action code 3. -/
  | serviceNone
  /-- NOTICE_POSITION (R53): a reply position whose order position held an idle word or a LEAVE. -/
  | noticePosition (event : NoticeEvent)
  /-- BIND_EXISTING (R67): the outcome of a reply position, won, for an EXISTING offer in hand. -/
  | bindExisting (others : List Word)
  /-- BIND_NEW (R68): the outcome of a reply position, won, for a NEW offer in hand. -/
  | bindNew (others : List Word)
  /-- OFFER_LOST (R69): the outcome of a reply position, lost, for an offer in hand. -/
  | offerLost (others : List Word)
  /-- BACK_OFF_EXPIRY (R23): a back-off entry's frames left have reached 0. -/
  | backOffExpiry (channel : Nat)
  /-- STEP_EXPIRY (R100): a timed cadence step's remaining count has reached 0. -/
  | stepExpiry (channel : Nat)
  /-- TONE_QUIET_EXPIRY (R102): a tone channel's quiet timer has reached 0. -/
  | toneQuietExpiry (channel : Nat)
  /-- CYCLE_QUIET_EXPIRY (R83): a cycle's quiet timer has reached 0. -/
  | cycleQuietExpiry (channel : Nat)
  /-- AUDIO_END (R75): T has reached G in PLAYING. -/
  | audioEnd (channel : Nat)
  /-- START_BOUNDARY (R76): T has reached 0. -/
  | startBoundary (channel : Nat)
  /-- GRADE_FALL (R154): the eighth boundary in a row with a lower raw grade. -/
  | gradeFall
  /-- LISTENING_COMPLETE (R43): the sixteenth boundary in LISTENING. -/
  | listeningComplete
  /-- HALT_COUNTDOWN_END (R51): the halt countdown has reached 0. -/
  | haltCountdownEnd
  /-- OPEN (R137): the store command OPEN. -/
  | openRow (bank : Nat) (row : Nat)
  /-- FETCH (R137): the store command FETCH, for an engine's request. -/
  | fetch (engine : Nat)
  /-- FETCH_CLOSE (R137): the store command FETCH-CLOSE, for an engine's request. -/
  | fetchClose (engine : Nat)
  /-- PUT (R137): the store command PUT, for the recorder's or the loader's request. -/
  | put
  /-- PUT_CLOSE (R137): the store command PUT-CLOSE. -/
  | putClose
  /-- CLOSE (R137): the store command CLOSE. -/
  | close (bank : Nat)
  /-- RENEW (R145): the store command RENEW. -/
  | renew
  /-- SETUP (R148): the store command SETUP. -/
  | setup
  /-- SELF_RENEW_ENTRY (R149): the store command SELF-RENEW, entry. -/
  | selfRenewEntry
  /-- SELF_RENEW_EXIT (R150): the store command SELF-RENEW, exit. -/
  | selfRenewExit
  /-- PENDING_CLOSE (R137): a pending close falls due at this step. -/
  | pendingClose (bank : Nat)
  /-- STORE_QUIET_END (R138): the quiet steps have run out. -/
  | storeQuietEnd
  /-- FETCH_DATA_ARRIVAL (R141): fetched data falls due at this step. -/
  | fetchDataArrival
  /-- RENEW_DEBT_RISE (R144): the frame count has reached 8. -/
  | renewDebtRise
  /-- CAPTURE_START (R163): the loud run has reached four codes. -/
  | captureStart
  /-- END_SILENCE_STOP (R166): the quiet run has reached 16 × E. -/
  | endSilenceStop
  /-- FULL_AREA_STOP (R166): placed has reached 16 × Z. -/
  | fullAreaStop
  /-- FLASH_BYTE (R172): the next byte of the serial flash. -/
  | flashByte (byte : Byte)
  deriving DecidableEq, Repr

end Sys2Proof
end

