-- ==== Sys2Proof/Decode.lean ====
section
/-! DEFINITION. The command a word of the command table spells. The table gives its rows no bits and no fields: a
command is an event of the block, not a word it fetches. The words of the order lane are read by the meanings
themselves (`orderOf`, section 13.1). -/
namespace Sys2Proof

/-- The command that the bits of a table row spell. No row of this block's table has bits, so that no word spells a
command (log entry 14). -/
def decodeTableWord (_nbits _w : Nat) : Option Instr := none

end Sys2Proof
end

