-- ==== Sys2Proof/Config.lean ====
section
/-! DEFINITION. The free values: what the manual leaves open and the station goes on with. Each is an opaque
constant, applied to the draw counter that State carries, so that no proof can see what it is. -/
namespace Sys2Proof

/-- What a store cell that nothing has written since the last pin reset reads as (R135: the contents are undefined
after pin reset until the loader has written them). Applied to the draw of that pin reset and the cell's number.
Log entry 1. -/
opaque Config.unwrittenCode : Nat → Nat → Code

/-- Where a notice posted at the same instant as others is put among them (R52: either may be taken first).
Applied to the draw and the notice's place. Log entry 2. -/
opaque Config.postOrder : Nat → Nat → Nat

/-- Where a channel returned at the same boundary as others is put among them (R74 gives the channels' boundary
work no order among channels). Log entry 3. -/
opaque Config.returnOrder : Nat → Nat → Nat

/-- Whether a frame's surplus release is taken before its standing start (R104: either may be taken first).
Log entry 4. -/
opaque Config.releaseFirst : Nat → Bool

/-- Whether a recorder's swap is taken before an engine's wrap at the same store step (R168: in either order).
Log entry 5. -/
opaque Config.swapFirst : Nat → Bool

end Sys2Proof
end

