-- ==== Sys2Proof/Machine/State.lean ====
section
/-! DEFINITION. Everything the manual gives the station, as plain data: one structure for each block of
spec/00_scope.md section 3, then the station, then the state (the station and the queue of waiting commands). -/
namespace Sys2Proof.Machine

/-! ### Why a step can stop -/

/-- The faults. Each stops a command that names a thing no station has; the manual gives such a command no effect,
so stopping is safe (log entry 6). -/
inductive Fault where
  /-- A command names a channel position above 47. Raised by every command with a channel operand. Safe. -/
  | noSuchChannel
  /-- A command names a store bank above 7 (R135). Raised by OPEN, CLOSE and PENDING_CLOSE. Safe. -/
  | noSuchBank
  /-- A command names a store row above 8191 (R135). Raised by OPEN. Safe. -/
  | noSuchRow
  /-- A command names a playback engine above 15 (R119). Raised by FETCH and FETCH_CLOSE. Safe. -/
  | noSuchEngine
  deriving DecidableEq, Repr

/-- The refusals. -/
inductive Refusal where
  /-- A command that has no meaning yet. Raised by `exec`'s arms alone; no arm raises it now. Safe. -/
  | notModelled (mnemonic : String)
  deriving DecidableEq, Repr

/-! ### Orders and notices -/

/-- A JOIN's mode (R56). -/
inductive Mode where
  | start
  | any
  deriving DecidableEq, Repr

/-- A SERVICE's action code (section 3.1): 0 DRAIN, 1 FORCE, 2 RETURN, 3 none. -/
inductive ServiceAction where
  | drain
  | force
  | back
  | none
  deriving DecidableEq, Repr

/-- A FINISH's action (section 3.1). -/
inductive FinishAction where
  | commit
  | discard
  deriving DecidableEq, Repr

/-- What an order asks, by kind (section 3.1, R178). -/
inductive OrderBody where
  | join (signal : Nat) (mode : Mode) (noSubstitute : Bool)
  | leave (channel : Nat)
  | probe (station : Nat)
  | record (station : Nat) (announcement : Nat)
  | finish (station : Nat) (action : FinishAction)
  | service (station : Nat) (action : ServiceAction)
  deriving DecidableEq, Repr

/-- An order: class, tag and body (section 3.1). -/
structure Order where
  cls : Nat
  tag : BitVec 8
  body : OrderBody
  deriving DecidableEq, Repr

/-- An order of the order list, with the frames passed since the frame it was received in (R36). -/
structure Waiting where
  order : Order
  age : Nat
  deriving DecidableEq, Repr

/-- What an order position held, as the recent-order memory keeps it (R15, R35). -/
inductive Seen where
  | nothing
  | order
  | noticeMark
  deriving DecidableEq, Repr

/-- The station states (R42 to R51). -/
inductive StationState where
  | loading
  | listening
  | serving
  | draining
  | resting
  | isolated
  | halted
  deriving DecidableEq, Repr

/-- The notice kinds, most urgent first (section 3.4). -/
inductive NoticeKind where
  | fault
  | lost
  | recordEnd
  | stale
  | late
  | grade
  | state
  deriving DecidableEq, Repr

/-- A notice: its kind, the channel it concerns or none (63), and its detail (section 3.4). -/
structure Notice where
  kind : NoticeKind
  channel : Option Channel
  detail : Nat
  deriving DecidableEq, Repr

/-! ### The highway port (chapter 1) -/

/-- The highway port's state, and what it has carried so far in the frame in progress. -/
structure Port where
  /-- The number of the current frame within its superframe, 0 to 15 (R2). -/
  frameCount : Nat
  /-- The pulse timer: the store steps passed since the last accepted pulse; none while the pulse is absent (R5). -/
  timer : Option Nat
  /-- Consecutive order positions that read all zeros, 0 to 16 (R16). -/
  breakCount : Nat
  /-- The store steps taken of the local frame in progress (R6). -/
  localSteps : Nat
  /-- The first channel whose owner position has not passed in this frame. -/
  ownerNext : Nat
  /-- The first channel whose sample position has not passed in this frame. -/
  sampleNext : Nat
  /-- Whether this frame's order position has passed. -/
  orderSeen : Bool
  /-- The code this station drove in each owner position of this frame, if any. -/
  ownerOut : Tbl 48 (Option OwnerCode)
  /-- The code this station drove in each sample position of this frame, if any. -/
  sampleOut : Tbl 48 (Option Code)
  /-- The word this station drove in this frame's reply position, if any. -/
  replyOut : Option Word
  deriving DecidableEq, Repr

/-! ### Tone channels (chapter 6) -/

/-- Where a generator stands in its cadence (R94). -/
inductive CadenceMode where
  | starting
  | timed
  | held
  | waiting
  deriving DecidableEq, Repr

/-- A tone channel record (R94). -/
structure ToneRecord where
  plan : Nat
  standing : Bool
  listeners : Nat
  quiet : Nat
  phase1 : BitVec 16
  phase2 : BitVec 16
  inc1 : BitVec 16
  inc2 : BitVec 16
  mode : CadenceMode
  /-- The current step; in WAITING the next candidate kept by the last search (R99). -/
  step : Nat
  remaining : Nat
  pass : Nat
  /-- The generator bound to the channel, 0 to 7. -/
  generator : Fin 8
  deriving DecidableEq, Repr

/-! ### Announcement cycles (chapter 5) -/

/-- The substate of a CYCLE channel (R72). -/
inductive Substate where
  | priming
  | playing
  | gap
  deriving DecidableEq, Repr

/-- A record of a pending join list (R73). -/
structure PendingJoin where
  tag : BitVec 8
  mode : Mode
  deriving DecidableEq, Repr

/-- A cycle record (R72). -/
structure CycleRecord where
  announcement : Nat
  substate : Substate
  /-- Superframes to the next start. -/
  t : Nat
  number : BitVec 8
  listeners : Nat
  waiting : List PendingJoin
  quiet : Nat
  late : Bool
  position : Nat
  engine : Fin 16
  deriving DecidableEq, Repr

/-! ### The channel table (chapter 2) -/

/-- What the station does with one channel (R19): the holding state, with the tone channel record of a TONE channel
and the cycle record of a CYCLE channel, so that a record exists exactly while the channel is held for it. -/
inductive Holding where
  | none
  | pool
  | tone (r : ToneRecord)
  | cycle (r : CycleRecord)
  | record
  deriving DecidableEq, Repr

/-- A back-off entry (R23). -/
structure BackOff where
  channel : Channel
  left : Nat
  deriving DecidableEq, Repr

/-- The channel table (chapter 2). -/
structure ChannelTable where
  /-- The owner code read for each channel in the most recent frame; none is unknown (R17). -/
  view : Tbl 48 (Option OwnerCode)
  /-- The free count H (R18). -/
  free : Nat
  holding : Tbl 48 Holding
  /-- The contention count of each channel (R29). -/
  contention : Tbl 48 Nat
  /-- The channel claimed this frame, if any (R21). -/
  claimed : Option Channel
  backOff : List BackOff
  /-- The pool, oldest place first (R25). -/
  pool : List Channel
  /-- The stopped condition (R30). -/
  stopped : Bool
  /-- The effective pool target formed at the start of the frame (R20). -/
  target : Nat
  deriving DecidableEq, Repr

/-! ### The order unit (chapter 3) -/

/-- The order unit. -/
structure OrderUnit where
  /-- The order list, oldest first (R36). -/
  list : List Waiting
  /-- The recent-order memory: this frame's order position, the last frame's and the one before (R15). -/
  seen0 : Seen
  seen1 : Seen
  seen2 : Seen
  state : StationState
  /-- The listening count (R43). -/
  listening : Nat
  /-- The halt countdown, none while it is not running (R51). -/
  countdown : Option Nat
  /-- The notice latch (R52). -/
  latch : Option Notice
  /-- The missed set: one mark for each kind, by kind code (R52). -/
  missed : Tbl 7 Bool
  /-- The notice handed to the port in this frame's notice position and not yet settled (R53). -/
  driving : Option Notice
  /-- Whether the latch still holds the notice being driven (R53). -/
  drivenStands : Bool
  /-- Whether this frame's notice position has been used. -/
  noticeUsed : Bool
  deriving DecidableEq, Repr

/-! ### The join unit (chapter 4) -/

/-- How a caller comes onto the channel offered (R55). The first two are the ways of an EXISTING offer, the last two
of a NEW one, whose channel starts as a tone channel or as a cycle in PRIMING. -/
inductive WayIn where
  | listener
  | pending
  | newTone
  | newCycle
  deriving DecidableEq, Repr

/-- The offer in hand (R55). -/
structure Offer where
  degraded : Bool
  signal : Nat
  channel : Channel
  wayIn : WayIn
  delay : Nat
  bid : Nat
  tag : BitVec 8
  mode : Mode
  deriving DecidableEq, Repr

/-! ### Playback engines (chapter 8) -/

/-- An area of the store: a base burst address and a length in bursts. -/
structure Area where
  base : Nat
  length : Nat
  deriving DecidableEq, Repr

/-- A sample position: the ordinal of its cycle since the binding, and its number (R119). -/
structure Position where
  cycle : Nat
  number : Nat
  deriving DecidableEq, Repr

/-- A sample of a ring: its code, cycle and position (R119). -/
structure Sample where
  code : Code
  position : Position
  deriving DecidableEq, Repr

/-- A burst of a cycle: where a fetch pointer stands, or a fetch in flight (R119). -/
structure BurstPlace where
  cycle : Nat
  burst : Nat
  deriving DecidableEq, Repr

/-- What a bound engine keeps (R119). -/
structure Engine where
  channel : Channel
  area : Area
  pointer : BurstPlace
  mark : Position
  ring : List Sample
  flights : List BurstPlace
  run : Bool
  deriving DecidableEq, Repr

/-- One of the sixteen engines: its binding count, kept while it is free, and what it keeps while bound (R119). -/
structure EngineSlot where
  count : BitVec 8
  /-- The underruns counted, one for each run (R122), since pin reset (log entry 38). -/
  underruns : Nat
  bound : Option Engine
  deriving DecidableEq, Repr

/-! ### The store (chapter 9) -/

/-- The store states (R136). -/
inductive StoreState where
  | unset
  | setting
  | ready
  | renewing
  | selfRenew
  | waking
  | stopped
  deriving DecidableEq, Repr

/-- The renew work in hand (R136). -/
inductive RenewWork where
  | none
  | forced
  | early
  | entry
  deriving DecidableEq, Repr

/-- A bank record (R136). -/
structure Bank where
  openRow : Option Nat
  pendingClose : Option Nat
  lastOpen : Option Nat
  lastFetch : Option Nat
  lastPut : Option Nat
  lastClose : Option Nat
  deriving DecidableEq, Repr

/-- FETCH data on its way (R136, R141): its step of arrival, the engine and the binding count it was issued for, the
burst it holds, and its 16 codes. -/
structure DueItem where
  step : Nat
  engine : Fin 16
  count : BitVec 8
  place : BurstPlace
  codes : List Code
  deriving DecidableEq, Repr

/-- Who asks the store for a burst (R131, R133). -/
inductive Requester where
  | engine (e : Fin 16)
  | recorder
  | loader
  deriving DecidableEq, Repr

/-- The commands the controller issues to the store (R137). -/
inductive StoreCmd where
  | openRow (bank : Fin 8) (row : Nat)
  | fetch (e : Fin 16) (close : Bool)
  | put (who : Requester) (close : Bool)
  | close (bank : Fin 8)
  | renew
  | setup (latency : Nat)
  | selfRenewEntry
  | selfRenewExit
  deriving DecidableEq, Repr

/-- A command as the store's command lines carry it (R137, R152): each names what the store device acts on. -/
inductive BusCmd where
  | openRow (bank : Fin 8) (row : Nat)
  | fetch (bank : Fin 8) (slot : Nat) (close : Bool)
  | put (bank : Fin 8) (slot : Nat) (close : Bool)
  | close (bank : Fin 8)
  | renew
  | setup (latency : Nat)
  | selfRenewEntry
  | selfRenewExit
  deriving DecidableEq, Repr

/-- What the store's lines carry in one store step (R152). -/
structure StepLines where
  /-- The command lines: the command of the step, if any. -/
  command : Option BusCmd
  /-- The data lines: the bursts read whose data falls due at the step (R141). -/
  read : List (List Code)
  /-- The data lines: the burst written by a PUT of the step. -/
  written : Option (List Code)
  deriving DecidableEq, Repr

/-- The store's contents: the cells written since the last pin reset, by rising number. Cell `16 * a + i` is code
`i` of burst `a`. A cell not listed is undefined (R135). -/
abbrev Memory := List Host.Cell

/-- The store controller, with the store device's contents. -/
structure Store where
  state : StoreState
  banks : Tbl 8 Bank
  /-- The open-window history, oldest first, at most three steps (R140). -/
  opens : List Nat
  debt : Int
  frames : Nat
  latency : Option Nat
  due : List DueItem
  work : RenewWork
  quiet : Nat
  /-- The number of the store step in progress, counted from pin reset (R136). -/
  step : Nat
  /-- The latency the loader has handed over and no SETUP has used yet (R148). -/
  setup : Option Nat
  /-- Whether the exit from self-renew has been signalled (R150). -/
  exitSignal : Bool
  /-- The command issued in the step in progress, if any (R137). -/
  issued : Option StoreCmd
  /-- The store's lines so far in the step in progress (R152). -/
  lines : StepLines
  /-- The store's lines in the step last closed (R152). -/
  shown : StepLines
  memory : Memory
  /-- The model's own: the draw of the pin reset that left the contents undefined. -/
  epoch : Nat
  deriving DecidableEq, Repr

/-! ### The congestion monitor (chapter 10) -/

/-- The congestion monitor. -/
structure Monitor where
  grade : Nat
  fall : Nat
  channelPressure : Nat
  enginePressure : Nat
  storePressure : Nat
  deriving DecidableEq, Repr

/-! ### The recorder (chapter 11) -/

/-- The recorder's states other than IDLE (chapter 11). -/
inductive RecordPhase where
  | searching
  | capturing
  | held
  | committing
  deriving DecidableEq, Repr

/-- The recording record and the record ring, which exist while the recorder is not IDLE (R161). -/
structure Recording where
  phase : RecordPhase
  entry : Nat
  cls : Nat
  input : Option Channel
  started : Bool
  loudRun : List Code
  placed : Nat
  nextBurst : Nat
  lastLoud : Nat
  quietRun : Nat
  damaged : Bool
  /-- The placed codes not yet written, oldest first, from the first position of the next burst. -/
  ring : List Code
  deriving DecidableEq, Repr

/-! ### The image's tables (chapters 6 and 12) -/

/-- A tone component (R93). -/
structure Component where
  increment : BitVec 16
  attenuation : Nat
  deriving DecidableEq, Repr

/-- A tone set: two components, each present or absent (R93). -/
structure ToneSet where
  c1 : Option Component
  c2 : Option Component
  deriving DecidableEq, Repr

/-- A cadence step's condition (R98). -/
inductive Cond where
  | always
  | noListeners
  | listeners
  | gradeHigh
  | gradeLow
  | firstPass
  | laterPass
  deriving DecidableEq, Repr

/-- A cadence step: a set index or SILENCE (none), a duration or HOLD (none), and a condition (R93). -/
structure CadenceStep where
  sound : Option Nat
  duration : Option Nat
  cond : Cond
  deriving DecidableEq, Repr

/-- A plan (R93). -/
structure Plan where
  id : Nat
  sets : List ToneSet
  steps : List CadenceStep
  loop : Nat
  deriving DecidableEq, Repr

/-- A directory entry (R175). `alternate` is the base of the alternate area of a recordable entry. -/
structure Entry where
  id : Nat
  guarded : Bool
  shortForm : Option Nat
  area : Area
  alternate : Option Nat
  pair : Option Nat
  gap : Nat
  window : Nat
  trim : Int
  deriving DecidableEq, Repr

/-- A record pair (R160). -/
structure RecordPair where
  number : Nat
  first : Nat
  second : Nat
  deriving DecidableEq, Repr

/-- The station's tables and settings, as the loader builds them (R175). -/
structure Tables where
  plans : List Plan
  directory : List Entry
  pairs : List RecordPair
  standing : List Nat
  poolTarget : Nat
  quietPeriod : Nat
  congestionPlan : Option Nat
  threshold : Nat
  endSilence : Nat
  areaSize : Nat
  deriving DecidableEq, Repr

/-! ### The loader (chapter 12) -/

/-- The load phases (chapter 12). -/
inductive LoadPhase where
  | header
  | records
  | check
  | audio
  | done
  deriving DecidableEq, Repr

/-- A directory record as the image gives it (section 13.3). -/
structure RawEntry where
  id : Nat
  guarded : Bool
  hasPair : Bool
  hasShort : Bool
  pairNumber : Nat
  shortId : Nat
  base : Nat
  length : Nat
  gap : Nat
  window : Nat
  trim : Int
  deriving DecidableEq, Repr

/-- The loader. -/
structure Loader where
  phase : LoadPhase
  /-- The header bytes read (the header copy). -/
  header : List Byte
  crc : BitVec 16
  readPosition : Nat
  /-- The bytes of the record, or of the stored CRC, read so far. -/
  partBytes : List Byte
  plans : List Plan
  entries : List RawEntry
  pairs : List RecordPair
  /-- The directory record whose audio is being loaded. -/
  audioEntry : Nat
  /-- The burst within it. -/
  audioBurst : Nat
  /-- The burst in hand: the codes read of the burst being loaded, 16 when it is complete. -/
  hand : List Code
  deriving DecidableEq, Repr

/-! ### The station and the state -/

/-- Everything the manual gives one station. -/
structure Station where
  /-- The station number sampled from the pins (R171). -/
  number : BitVec 4
  port : Port
  table : ChannelTable
  orders : OrderUnit
  /-- The join unit's offer in hand (R55). -/
  offer : Option Offer
  /-- The codes the sample path has formed for this frame (R118). -/
  formed : Tbl 48 (Option Code)
  engines : Tbl 16 EngineSlot
  store : Store
  monitor : Monitor
  /-- The recorder; none is IDLE (R161). -/
  recorder : Option Recording
  tables : Tables
  loader : Loader
  /-- The model's own: the counter of draws of free values. -/
  draw : Nat
  deriving DecidableEq, Repr

/-- The state: the station, and the commands that wait, first in, first out. -/
structure State extends Station where
  pending : List Instr
  deriving DecidableEq, Repr

/-! ### Reset -/

/-- The port after pin reset (section 1.10). -/
def Port.fresh : Port :=
  { frameCount := 15, timer := none, breakCount := 0, localSteps := 0, ownerNext := 0, sampleNext := 0,
    orderSeen := false, ownerOut := Tbl.fill 48 none, sampleOut := Tbl.fill 48 none, replyOut := none }

/-- The channel table after pin reset (R33). -/
def ChannelTable.fresh : ChannelTable :=
  { view := Tbl.fill 48 none, free := 48, holding := Tbl.fill 48 .none, contention := Tbl.fill 48 0, claimed := none,
    backOff := [], pool := [], stopped := false, target := 0 }

/-- The order unit after pin reset (R42): LOADING, or HALTED where the pins read 15 (R171). -/
def OrderUnit.fresh (st : StationState) : OrderUnit :=
  { list := [], seen0 := .nothing, seen1 := .nothing, seen2 := .nothing, state := st, listening := 0,
    countdown := none, latch := none, missed := Tbl.fill 7 false, driving := none, drivenStands := false,
    noticeUsed := false }

/-- A bank record after pin reset (R136). -/
def Bank.fresh : Bank :=
  { openRow := none, pendingClose := none, lastOpen := none, lastFetch := none, lastPut := none, lastClose := none }

/-- The store's lines in a step that has carried nothing (R152). -/
def StepLines.idle : StepLines := { command := none, read := [], written := none }

/-- The store controller after pin reset (R136). The contents are undefined: no cell is listed (R135). -/
def Store.fresh (draw : Nat) : Store :=
  { state := .unset, banks := Tbl.fill 8 Bank.fresh, opens := [], debt := 0, frames := 0, latency := none, due := [],
    work := .none, quiet := 0, step := 0, setup := none, exitSignal := false, issued := none,
    lines := StepLines.idle, shown := StepLines.idle, memory := [], epoch := draw }

/-- The monitor after pin reset (R157). -/
def Monitor.fresh : Monitor :=
  { grade := 0, fall := 0, channelPressure := 0, enginePressure := 0, storePressure := 0 }

/-- The tables after pin reset: emptied until the loader builds them (R175). Log entry 8. -/
def Tables.fresh : Tables :=
  { plans := [], directory := [], pairs := [], standing := [], poolTarget := 0, quietPeriod := 0,
    congestionPlan := none, threshold := 0, endSilence := 0, areaSize := 0 }

/-- The loader after pin reset (R171). R171 gives the audio position no value before audio is loaded: it stands at
entry 0, burst 0 (log entry 40). -/
def Loader.fresh : Loader :=
  { phase := .header, header := [], crc := 65535, readPosition := 0, partBytes := [], plans := [], entries := [],
    pairs := [], audioEntry := 0, audioBurst := 0, hand := [] }

/-- The state a pin reset leaves the station in, with what the pins read (R42, R171). -/
def StationState.afterReset (pins : BitVec 4) : StationState := if pins = 15#4 then .halted else .loading

/-- The station right after pin reset: every block at its reset values (R42). R171 gives the load phase, the CRC
register and the read position for the pins 0 to 14; with the pins at 15 they stand the same (log entry 41). `draw`
numbers the free values of the undefined store contents. -/
def Station.afterReset (pins : BitVec 4) (draw : Nat) : Station :=
  { number := pins, port := Port.fresh, table := ChannelTable.fresh,
    orders := OrderUnit.fresh (StationState.afterReset pins), offer := none, formed := Tbl.fill 48 none,
    engines := Tbl.fill 16 { count := 0, underruns := 0, bound := none }, store := Store.fresh draw, monitor := Monitor.fresh,
    recorder := none, tables := Tables.fresh, loader := Loader.fresh, draw := draw }

/-- The machine right after pin reset, with the station number pins at 0 (log entry 7) and no command waiting. -/
def State.reset : State := { toStation := Station.afterReset 0 0, pending := [] }

end Sys2Proof.Machine
end

