-- ==== Sys2Proof/Machine/Operands.lean ====
section
/-! DEFINITION. The forms of what the lanes carry: the arbitration of an open-drain position, the fields of an order
word, and the words a station drives (chapters 1 and 13). -/
namespace Sys2Proof.Machine

/-! ### Open-drain arbitration (R7, R8, R14) -/

/-- The value of the low `k` bits a position reads, most significant first, where the words `ds` are still being
driven: a bit reads one unless some driver drives zero, and a driver that drove one and read zero drives no more. -/
def laneBits {w : Nat} : Nat → List (BitVec w) → Nat
  | 0, _ => 0
  | k + 1, ds =>
    let bit := ds.all (fun d => d.getLsbD k)
    (if bit then 2 ^ k else 0) + laneBits k (ds.filter (fun d => d.getLsbD k == bit))

/-- The word every station reads in a position that the words `ds` arbitrate (R8, R14); all ones where nobody drives
(R7). -/
def laneWord {w : Nat} (ds : List (BitVec w)) : BitVec w := BitVec.ofNat w (laneBits w ds)

/-- A station that drove its word and reads it back has won the position (R8, R14). -/
def wins {w : Nat} (own : BitVec w) (others : List (BitVec w)) : Bool := laneWord (own :: others) == own

/-! ### The order word (R178) -/

/-- The number in bits `lo + len - 1` to `lo` of a word. -/
def field (word : Word) (lo len : Nat) : Nat := (word.extractLsb' lo len).toNat

/-- A JOIN's mode bit (R178). -/
def modeOf (bit : Nat) : Mode := if bit = 1 then .any else .start

/-- A SERVICE's action code (R178). -/
def serviceActionOf (code : Nat) : ServiceAction :=
  match code with
  | 0 => .drain
  | 1 => .force
  | 2 => .back
  | _ => .none

/-- The body of an order word of the given kind code; none for an idle kind (R178). -/
def orderBodyOf (word : Word) : Option OrderBody :=
  match field word 28 4 with
  | 1 => some (.join (field word 9 9) (modeOf (field word 8 1)) (field word 7 1 == 1))
  | 2 => some (.leave (field word 12 6))
  | 3 => some (.probe (field word 14 4))
  | 4 => some (.record (field word 14 4) (field word 5 9))
  | 5 => some (.finish (field word 14 4) (if field word 13 1 = 1 then .discard else .commit))
  | 6 => some (.service (field word 14 4) (serviceActionOf (field word 12 2)))
  | _ => none

/-- The order a word carries; none for an idle word, whatever its other bits (R35, R178). -/
def orderOf (word : Word) : Option Order :=
  (orderBodyOf word).map fun b => { cls := field word 26 2, tag := word.extractLsb' 18 8, body := b }

/-- What the recent-order memory keeps of a word: an order awaiting its reply position, or the mark of a notice
position for an idle word or a LEAVE (R15, R35). -/
def seenOf (word : Word) : Seen :=
  match orderBodyOf word with
  | none => .noticeMark
  | some (.leave _) => .noticeMark
  | some _ => .order

/-! ### The words a station drives (R179) -/

/-- The refusal reasons (R38). -/
inductive Reason where
  | cls
  | state
  | unknown
  | noChannel
  | busy
  | empty
  deriving DecidableEq, Repr

/-- The refusal reason codes (R38). -/
def Reason.code : Reason → Nat
  | .cls => 1
  | .state => 2
  | .unknown => 3
  | .noChannel => 4
  | .busy => 5
  | .empty => 6

/-- The notice kind codes (R51, R179). -/
def NoticeKind.code : NoticeKind → Fin 7
  | .fault => 0
  | .lost => 1
  | .recordEnd => 2
  | .stale => 3
  | .late => 4
  | .grade => 5
  | .state => 6

/-- The state codes of replies and STATE notices (R41); the states that answer nothing have none and give 0. -/
def StationState.code : StationState → Nat
  | .listening => 1
  | .serving => 2
  | .draining => 3
  | .resting => 4
  | .loading => 0
  | .isolated => 0
  | .halted => 0

/-- The bid reply (section 13.2, R66). -/
def bidWord (degraded : Bool) (bid : Nat) (station : BitVec 4) (channel delay : Nat) : Word :=
  (if degraded then 1#2 else 0#2) ++ BitVec.ofNat 8 bid ++ station ++ BitVec.ofNat 6 channel ++ BitVec.ofNat 12 delay

/-- The refusal form (R38): the reason and the station, every other bit after the result one. -/
def refusalWord (r : Reason) (station : BitVec 4) : Word :=
  2#2 ++ BitVec.ofNat 4 r.code ++ 15#4 ++ station ++ 63#6 ++ 4095#12

/-- The RECORD accept form (R162). -/
def recordAcceptWord (station : BitVec 4) (channel areaSize : Nat) : Word :=
  0#2 ++ 0#8 ++ station ++ BitVec.ofNat 6 channel ++ BitVec.ofNat 12 (areaSize / 16)

/-- The FINISH accept form (R167). -/
def finishAcceptWord (station : BitVec 4) (damaged : Bool) (length : Nat) : Word :=
  0#2 ++ (if damaged then 1#4 else 0#4) ++ 0#4 ++ station ++ BitVec.ofNat 18 length

/-- The SERVICE accept form (R44, R46, R47). -/
def serviceAcceptWord (station : BitVec 4) (state : StationState) : Word :=
  0#2 ++ BitVec.ofNat 3 state.code ++ 31#5 ++ station ++ 63#6 ++ 4095#12

/-- The channel field of a notice, 63 for none (section 13.2). -/
def Notice.channelField (n : Notice) : Nat :=
  match n.channel with
  | some c => c.val
  | none => 63

/-- The notice form (R53). -/
def noticeWord (n : Notice) (station : BitVec 4) : Word :=
  0#2 ++ BitVec.ofNat 4 n.kind.code.val ++ 0#4 ++ station ++ BitVec.ofNat 6 n.channelField ++ BitVec.ofNat 12 n.detail

/-- One bit of a word. -/
def flag (b : Bool) : BitVec 1 := if b then 1#1 else 0#1

/-- The PROBE reply (R41). The FAULT mark of the missed set is driven as 0. -/
def probeWord (station : BitVec 4) (state : StationState) (grade pool freeEngines debtPlus2 : Nat)
    (missed : Tbl 7 Bool) (recorderActive : Bool) : Word :=
  0#2 ++ BitVec.ofNat 3 state.code ++ BitVec.ofNat 2 grade ++ BitVec.ofNat 3 pool ++ station
    ++ BitVec.ofNat 5 freeEngines ++ BitVec.ofNat 4 debtPlus2
    ++ 0#1 ++ flag (missed.get 1) ++ flag (missed.get 2) ++ flag (missed.get 3) ++ flag (missed.get 4)
    ++ flag (missed.get 5) ++ flag (missed.get 6) ++ flag recorderActive ++ 1#1

/-- The detail of a GRADE notice: the new grade and the three pressures (section 13.2). -/
def gradeDetail (grade channelPressure enginePressure storePressure : Nat) : Nat :=
  64 * grade + 16 * channelPressure + 4 * enginePressure + storePressure

/-- An offer is NEW where its channel is still to be taken, and EXISTING otherwise (R55). -/
def Offer.isNew (o : Offer) : Bool :=
  match o.wayIn with
  | .listener => false
  | .pending => false
  | .newTone => true
  | .newCycle => true

end Sys2Proof.Machine
end

