-- ==== Sys2Proof/Machine/Flags.lean ====
section
/-! DEFINITION. The status the station reports: the notice latch and the missed set (section 3.4), the fault lamp
(R177), the counts a PROBE carries, and the order of things that come at one instant. -/
namespace Sys2Proof.Machine

/-- The states in which notices are latched or recorded as missed (R52); orders are taken in the same four (R35). -/
def StationState.answers : StationState → Bool
  | .listening => true
  | .serving => true
  | .draining => true
  | .resting => true
  | .loading => false
  | .isolated => false
  | .halted => false

/-- The order unit with a kind added to the missed set (R52). -/
def OrderUnit.miss (o : OrderUnit) (k : NoticeKind) : OrderUnit := { o with missed := o.missed.put k.code true }

/-- The order unit with a notice taken into the latch, which no longer holds what was being driven (R53). -/
def OrderUnit.latchNotice (o : OrderUnit) (n : Notice) : OrderUnit :=
  { o with latch := some n, drivenStands := false }

/-- A notice taken by the order unit, by the table of R52. -/
def OrderUnit.take (o : OrderUnit) (n : Notice) : OrderUnit :=
  match o.latch with
  | none => o.latchNotice n
  | some k => if n.kind.code ≤ k.kind.code then (o.miss k.kind).latchNotice n else o.miss n.kind

/-- A block posts a notice (R52): it is neither latched nor recorded in LOADING, ISOLATED and HALTED. -/
def post (n : Notice) (s : Station) : Station :=
  if s.orders.state.answers then { s with orders := s.orders.take n } else s

/-- Notices posted one after another. -/
def postAll (ns : List Notice) (s : Station) : Station := ns.foldl (fun s n => post n s) s

/-- Put a thing into a list at the given place, counted round the list's length plus one. -/
def insertAt {α : Type} (place : Nat) (a : α) (l : List α) : List α :=
  match l with
  | [] => [a]
  | b :: bs => (b :: bs).insertIdx (place % (bs.length + 2)) a

/-- Things that come at one instant, in an order that the free values `order draw` choose: any order can come out
(R52, R74). One thing alone draws nothing. -/
def shuffle {α : Type} (order : Nat → Nat → Nat) (draw : Nat) (l : List α) : List α :=
  match l with
  | [] => []
  | a :: as => insertAt (order draw as.length) a (shuffle order draw as)

/-- The latch and the missed set emptied (R54). -/
def OrderUnit.clearNotices (o : OrderUnit) : OrderUnit :=
  { o with latch := none, missed := Tbl.fill 7 false, driving := none, drivenStands := false }

/-- The order unit on entering HALTED (R51): list, latch and missed set emptied, the countdown over. The listening
count, which R43 does not keep outside LISTENING, stands at 0 there (log entry 37). -/
def OrderUnit.halt (o : OrderUnit) : OrderUnit :=
  { o.clearNotices with list := [], countdown := none, state := .halted, listening := 0 }

/-- The order unit on entering LISTENING (R43). Outside LISTENING the count stands at 0 (log entry 37). -/
def OrderUnit.listen (o : OrderUnit) : OrderUnit := { o with state := .listening, listening := 0 }

/-- The fault lamp is lit while the station is HALTED and unlit in every other state (R177). -/
def faultLamp (s : Station) : Bool := s.orders.state == .halted

/-- The frame pulse is present while the pulse timer is running (R5). -/
def pulsePresent (s : Station) : Bool := s.port.timer.isSome

/-- The number of engines bound to no channel (R119). -/
def freeEngines (s : Station) : Nat := ((numbers 16).filter fun e => (s.engines.get e).bound.isNone).length

/-- The recorder is active in any state other than IDLE (R41). -/
def recorderActive (s : Station) : Bool := s.recorder.isSome

end Sys2Proof.Machine
end

