-- ==== Sys2Proof/Machine/Ops.lean ====
section
/-! DEFINITION. The named operations every family shares: the store's contents, the channel table's takes, returns,
drops and losses, freeing an engine, halting, the tables' look-ups, and running a meaning on a state. -/
namespace Sys2Proof.Machine

/-! ### Running a meaning -/

/-- The answer of a command whose effect on the station is `f`; the queue stands. -/
def State.run (s : State) (f : Station → Station) : Host.Outcome State Fault Refusal :=
  .next { s with toStation := f s.toStation }

/-- A command that names a channel: it faults where no frame has that channel. -/
def State.runChannel (s : State) (c : Nat) (f : Channel → Station → Station) : Host.Outcome State Fault Refusal :=
  if h : c < 48 then s.run (f ⟨c, h⟩) else .fault .noSuchChannel

/-- A command that names a bank: it faults where the store has no such bank. -/
def State.runBank (s : State) (b : Nat) (f : Fin 8 → Station → Station) : Host.Outcome State Fault Refusal :=
  if h : b < 8 then s.run (f ⟨b, h⟩) else .fault .noSuchBank

/-- A command that names an engine: it faults where the station has no such engine. -/
def State.runEngine (s : State) (e : Nat) (f : Fin 16 → Station → Station) : Host.Outcome State Fault Refusal :=
  if h : e < 16 then s.run (f ⟨e, h⟩) else .fault .noSuchEngine

/-- An event comes about where it stands due, and not otherwise (log entry 9). -/
def whenDue (due : Bool) (f : Station → Station) (s : Station) : Station := if due then f s else s

/-! ### The store's contents (R135) -/

/-- The number of cells of the store: 16 codes for each of its 4,194,304 bursts. -/
def cellCount : Nat := 67108864

/-- The value written last at a cell; none for a cell nothing has written since the last pin reset. -/
def Memory.read (m : Memory) (a : Nat) : Option Code :=
  match m with
  | [] => none
  | (b, v) :: rest => if a = b then some v else Memory.read rest a

/-- The contents with a cell written. -/
def Memory.write (m : Memory) (a : Nat) (v : Code) : Memory :=
  match m with
  | [] => [(a, v)]
  | (b, u) :: rest =>
    if a < b then (a, v) :: (b, u) :: rest
    else if a = b then (a, v) :: rest
    else (b, u) :: Memory.write rest a v

/-- The contents with codes written at cells `a`, `a + 1` and on. -/
def Memory.writeAll (m : Memory) (a : Nat) (vs : List Code) : Memory :=
  match vs with
  | [] => m
  | v :: rest => Memory.writeAll (m.write a v) (a + 1) rest

/-- The cells rise strictly. -/
def Memory.rising (m : Memory) : Bool :=
  match m with
  | [] => true
  | [_] => true
  | (a, _) :: (b, v) :: rest => decide (a < b) && Memory.rising ((b, v) :: rest)

/-- The canonical form: the cells rise strictly and all lie in the store. -/
def Memory.wf (m : Memory) : Bool := m.rising && m.all (fun cell => decide (cell.1 < cellCount))

/-- The bank of a burst address (R135). -/
def bankOf (a : Nat) : Fin 8 := ⟨a % 8, Nat.mod_lt a (by decide)⟩

/-- The row of a burst address (R135). -/
def rowOf (a : Nat) : Nat := a / 512

/-- The slot of a burst address (R135). -/
def slotOf (a : Nat) : Nat := a / 8 % 64

/-- The group of a bank (R135). -/
def groupOf (b : Fin 8) : Nat := b.val % 2

/-- The codes of a burst as FETCH reads them: the codes last written at its address, and a free value for a cell that
nothing has written since pin reset (R135, log entry 1). -/
def readBurst (s : Station) (a : Nat) : List Code :=
  (List.range 16).map fun i => (s.store.memory.read (16 * a + i)).getD (Config.unwrittenCode s.store.epoch (16 * a + i))

/-! ### Look-ups -/

/-- The directory entry of an announcement id. -/
def findEntry (s : Station) (id : Nat) : Option Entry := s.tables.directory.find? fun e => e.id == id

/-- The plan of a plan id. -/
def findPlan (s : Station) (id : Nat) : Option Plan := s.tables.plans.find? fun p => p.id == id

/-- The lowest-numbered free engine (R119). -/
def freeEngine (s : Station) : Option (Fin 16) := (numbers 16).find? fun e => (s.engines.get e).bound.isNone

/-- Whether a holding uses generator `g`. -/
def Holding.usesGenerator (h : Holding) (g : Fin 8) : Bool :=
  match h with
  | .tone r => r.generator == g
  | _ => false

/-- The lowest-numbered free generator: one that no TONE channel has (R94). -/
def freeGenerator (s : Station) : Option (Fin 8) :=
  (numbers 8).find? fun g => (numbers 48).all fun c => !(s.table.holding.get c).usesGenerator g

/-- Whether the channel is held: any holding state but NONE. -/
def Holding.isHeld (h : Holding) : Bool :=
  match h with
  | .none => false
  | _ => true

/-- Whether the holding is TONE, CYCLE or RECORD: a channel in service. -/
def Holding.inService (h : Holding) : Bool :=
  match h with
  | .tone _ => true
  | .cycle _ => true
  | .record => true
  | _ => false

/-- Whether the holding is TONE. -/
def Holding.isTone (h : Holding) : Bool :=
  match h with
  | .tone _ => true
  | _ => false

/-- Whether the holding is CYCLE. -/
def Holding.isCycle (h : Holding) : Bool :=
  match h with
  | .cycle _ => true
  | _ => false

/-- The number of channels whose holding satisfies `p`. -/
def countHolding (s : Station) (p : Holding → Bool) : Nat :=
  ((numbers 48).filter fun c => p (s.table.holding.get c)).length

/-! ### The channel table -/

/-- The effective pool target for a station state and a grade (R20). -/
def effectiveTarget (state : StationState) (grade configured : Nat) : Nat :=
  match state with
  | .serving => if grade = 3 then min configured 1 else configured
  | _ => 0

/-- The table with channel `c` in a holding state, its contention count 0. -/
def ChannelTable.hold (t : ChannelTable) (c : Channel) (h : Holding) : ChannelTable :=
  { t with holding := t.holding.put c h, contention := t.contention.put c 0 }

/-- A station with the record of channel `c` replaced, its contention count kept. -/
def setHolding (c : Channel) (h : Holding) (s : Station) : Station :=
  { s with table := { s.table with holding := s.table.holding.put c h } }

/-- A pool channel taken into service (R25): it leaves the pool, the others keep their order. -/
def takeInto (c : Channel) (h : Holding) (s : Station) : Station :=
  { s with table := { s.table.hold c h with pool := s.table.pool.erase c } }

/-- A channel returned from service (R26): to POOL in the newest place where the pool is below the target, and to
NONE otherwise. The returning block has freed what it held. A claim marked at the same time is not counted: `settleClaim`
keeps the pool within 4 (R34, log entry 36). -/
def returnChannel (target : Nat) (c : Channel) (s : Station) : Station :=
  let s := { s with formed := s.formed.put c none }
  if s.table.pool.length < target then
    { s with table := { s.table.hold c .pool with pool := s.table.pool ++ [c] } }
  else { s with table := s.table.hold c .none }

/-- An engine freed (R130): its fields are gone, its binding count is kept. -/
def freeEngineSlot (e : Fin 16) (s : Station) : Station :=
  { s with engines := s.engines.put e { s.engines.get e with bound := none } }

/-- What a channel carried is torn down (R28): a pool place, a cycle's engine, a recording made on it. -/
def tearDown (c : Channel) (s : Station) : Station :=
  match s.table.holding.get c with
  | .none => s
  | .pool => { s with table := { s.table with pool := s.table.pool.erase c } }
  | .tone _ => s
  | .cycle r => freeEngineSlot r.engine s
  | .record => { s with recorder := none }

/-- A channel put in NONE with what it carried torn down. -/
def dropChannel (c : Channel) (s : Station) : Station :=
  let s := tearDown c s
  { s with table := s.table.hold c .none, formed := s.formed.put c none }

/-- A held channel lost, or surrendered, with LOST posted for a channel in service (R28, R29). -/
def loseChannel (c : Channel) (detail : Nat) (s : Station) : Station :=
  if (s.table.holding.get c).inService then
    post { kind := .lost, channel := some c, detail := detail } (dropChannel c s)
  else dropChannel c s

/-- Every channel dropped at once (R32): every engine and generator is freed, every cycle record discarded, the
recorder made IDLE, the claim mark cleared. -/
def dropAll (s : Station) : Station :=
  { s with
    table := { s.table with
      holding := Tbl.fill 48 .none, contention := Tbl.fill 48 0, claimed := none, pool := [] }
    formed := Tbl.fill 48 none
    engines := s.engines.map fun slot => { slot with bound := none }
    recorder := none }

/-! ### Work that posts notices and gives channels back -/

/-- Boundary work in progress: the station, the notices it posts, and the channels it returns. Notices that come
together are taken in an open order (R52), and a channel returned at a boundary is returned against the target of the
frame that follows it (R20), so both are gathered first. -/
structure Work where
  station : Station
  posts : List Notice
  returned : List Channel

/-- Work on a station that has posted and returned nothing yet. -/
def Work.begin (s : Station) : Work := { station := s, posts := [], returned := [] }

/-- Channels returned one after another. -/
def returnAll (target : Nat) (cs : List Channel) (s : Station) : Station :=
  cs.foldl (fun s c => returnChannel target c s) s

/-- Work finished in a frame: its notices posted, its channels returned against the frame's target. -/
def Work.finish (w : Work) : Station := returnAll w.station.table.target w.returned (postAll w.posts w.station)

/-- A channel's service ended: its record is discarded and the channel is to be returned. -/
def Work.endService (c : Channel) (w : Work) : Work :=
  { w with
    station := { w.station with
      table := w.station.table.hold c .none, formed := w.station.formed.put c none }
    returned := w.returned ++ [c] }

/-- Work of each channel in turn, in rising order. -/
def eachChannel {α : Type} (f : Channel → α → α) (a : α) : α := (numbers 48).foldl (fun a c => f c a) a

/-! ### Halting (R51, R151) -/

/-- The store on entering HALTED (R151): STOPPED unless UNSET, no work, nothing due, the contents not kept. The banks
stay as they stand, and a close still pending is not carried out (`closeDue`). A burst whose data was still due is not
shown on the data lines at its step either (R152, log entry 42). -/
def Store.halt (t : Store) : Store :=
  { t with
    state := if t.state = .unset then .unset else .stopped
    work := .none, debt := 0, frames := 0, due := [], quiet := 0, setup := none, exitSignal := false, memory := [] }

/-- The station enters HALTED (R51, R151). -/
def enterHalted (s : Station) : Station := { s with orders := s.orders.halt, store := s.store.halt }

/-! ### Signals to the store controller (R149, R150) -/

/-- The order unit signals that the station enters RESTING (R149): the renew work becomes ENTRY. -/
def Store.signalRest (t : Store) : Store := { t with work := .entry }

/-- The order unit signals that the station has left RESTING (R149, R150): an entry not yet issued is abandoned, and a
store in self-renew is to come out of it. -/
def Store.signalReturn (t : Store) : Store :=
  { t with
    work := if t.work = .entry then (if t.debt = 8 then .forced else .none) else t.work
    exitSignal := decide (t.state = .selfRenew) }

/-! ### Playing positions (R119) -/

/-- Positions are ordered by cycle and then by number (R119). -/
def Position.before (p q : Position) : Bool :=
  decide (p.cycle < q.cycle) || (decide (p.cycle = q.cycle) && decide (p.number < q.number))

/-- The entry's current area, for an engine to latch; an entry that is gone leaves the area as it was. -/
def currentArea (s : Station) (id : Nat) (old : Area) : Area :=
  match findEntry s id with
  | some e => e.area
  | none => old

end Sys2Proof.Machine
end

