-- ==== Sys2Proof/Machine/Samples.lean ====
section
/-! DEFINITION. The sample path (chapter 7): codes and linear values, the gain and sine tables, trims, tone
components and the loudness verdict. -/
namespace Sys2Proof.Machine

/-! ### Linear values and codes (R109, R110) -/

/-- A value held within the linear domain, -4095 to +4095 (R109, R112, R116). -/
def saturate (x : Int) : Int := max (-4095) (min 4095 x)

/-- The chord of a magnitude: the row of R109's table whose range holds it. -/
def chordOf (m : Nat) : Nat :=
  if m < 32 then 0
  else if m < 64 then 1
  else if m < 128 then 2
  else if m < 256 then 3
  else if m < 512 then 4
  else if m < 1024 then 5
  else if m < 2048 then 6
  else 7

/-- The base of a chord (R109). -/
def chordBase (c : Nat) : Nat := if c = 0 then 0 else 16 * 2 ^ c

/-- The step of a chord (R109). -/
def chordStep (c : Nat) : Nat := if c = 0 then 2 else 2 ^ c

/-- The code of a linear value (R109). -/
def compress (x : Int) : Code :=
  let m := min x.natAbs 4095
  let c := chordOf m
  let q := (m - chordBase c) / chordStep c
  BitVec.ofNat 8 (255 - ((if x < 0 then 128 else 0) + 16 * c + q))

/-- The magnitude a code expands to (R110). -/
def magnitude (k : Code) : Nat :=
  let v := 255 - k.toNat
  let c := v % 128 / 16
  chordBase c + v % 16 * chordStep c + chordStep c / 2

/-- The linear value of a code (R110). -/
def expand (k : Code) : Int :=
  if 128 ≤ 255 - k.toNat then -(magnitude k : Int) else (magnitude k : Int)

/-! ### Gains (R111, R112) -/

/-- The gain table (R111): entry `t + 63` is g(t), the whole number nearest 4096 × 10^(t / 40), for t from -63 to
+24. -/
def gainTable : List Nat :=
  [109, 115, 122, 130, 137, 145, 154, 163, 173, 183, 194, 205, 217, 230, 244, 258, 274, 290, 307, 325, 345, 365]
    ++ [387, 410, 434, 460, 487, 516, 546, 579, 613, 649, 688, 728, 772, 817, 866, 917, 971, 1029, 1090, 1154, 1223, 1295]
    ++ [1372, 1453, 1539, 1631, 1727, 1830, 1938, 2053, 2175, 2303, 2440, 2584, 2738, 2900, 3072, 3254, 3446, 3651, 3867, 4096, 4339, 4596]
    ++ [4868, 5157, 5462, 5786, 6129, 6492, 6876, 7284, 7715, 8173, 8657, 9170, 9713, 10289, 10898, 11544, 12228, 12953, 13720, 14533, 15394, 16306]

/-- The gain g(t) of t half-decibels, t from -63 to +24 (R111). -/
def gain (t : Int) : Nat := gainTable.getD (t + 63).toNat 4096

/-- A linear value scaled by a gain in units of 1/4096, rounded as R112 says, and saturated. -/
def scale (x : Int) (g : Nat) : Int := saturate ((x * g + 2048) / 4096)

/-- The code of an announcement sample: the engine's code with the entry's trim applied (R113). -/
def trimCode (t : Int) (k : Code) : Code :=
  if t = 0 then k else compress (scale (expand k) (gain t))

/-! ### Tones (R114 to R116) -/

/-- The first quarter of the sine table (R114): s[k] for k from 0 to 64. -/
def quarterSine : List Nat :=
  [0, 100, 201, 301, 401, 501, 601, 700, 799, 897, 995, 1092, 1189, 1285, 1380, 1474, 1567, 1659, 1751, 1841, 1930, 2018]
    ++ [2105, 2191, 2275, 2358, 2439, 2519, 2598, 2675, 2750, 2824, 2896, 2966, 3034, 3101, 3165, 3228, 3289, 3348, 3405, 3460, 3512, 3563]
    ++ [3611, 3658, 3702, 3744, 3783, 3821, 3856, 3888, 3919, 3947, 3972, 3996, 4016, 4035, 4051, 4064, 4075, 4084, 4090, 4094, 4095]

/-- The sine table (R114): s[k] for k from 0 to 255, from its first quarter by the sine's symmetries. -/
def sine (k : Nat) : Int :=
  if k ≤ 64 then (quarterSine.getD k 0 : Int)
  else if k ≤ 128 then (quarterSine.getD (128 - k) 0 : Int)
  else if k ≤ 192 then -(quarterSine.getD (k - 128) 0 : Int)
  else -(quarterSine.getD (256 - k) 0 : Int)

/-- One component of a tone in one frame (R115). -/
def componentValue (c : Component) (phase : BitVec 16) : Int :=
  scale (sine (phase.toNat / 256)) (gain (-(c.attenuation : Int)))

/-- A present component's value; an absent one adds nothing (R116). -/
def componentOrZero (c : Option Component) (phase : BitVec 16) : Int :=
  match c with
  | none => 0
  | some c => componentValue c phase

/-- The code of a tone set in one frame (R116): silence where both components are absent. -/
def toneCode (set : ToneSet) (phase1 phase2 : BitVec 16) : Code :=
  if set.c1.isNone && set.c2.isNone then silence
  else compress (saturate (componentOrZero set.c1 phase1 + componentOrZero set.c2 phase2))

/-! ### The recorder's input (R117) -/

/-- A frame is loud when the magnitude its code expands to is the threshold or more (R117). -/
def loud (threshold : Nat) (k : Code) : Bool := decide (threshold ≤ magnitude k)

end Sys2Proof.Machine
end

