-- ==== Sys2Proof/Machine/Tone.lean ====
section
/-! DEFINITION. The tone unit (chapter 6): cadences, phases, listeners, quiet timers and standing tones. -/
namespace Sys2Proof.Machine

/-! ### The cadence (R97 to R100) -/

/-- A step's condition, tested against a listener count, a grade and a pass count (R98). -/
def condHolds (c : Cond) (listeners grade pass : Nat) : Bool :=
  match c with
  | .always => true
  | .noListeners => listeners == 0
  | .listeners => decide (1 ≤ listeners)
  | .gradeHigh => decide (2 ≤ grade)
  | .gradeLow => decide (grade ≤ 1)
  | .firstPass => pass == 0
  | .laterPass => decide (1 ≤ pass)

/-- The successor of a step: the next one, or the loop point after the last (R99). -/
def successor (p : Plan) (i : Nat) : Nat := if i + 1 < p.steps.length then i + 1 else p.loop

/-- The pass count after passing a step: passing the last one raises it, and 255 stays (R99). -/
def passAfter (p : Plan) (i pass : Nat) : Nat := if i + 1 < p.steps.length then pass else min 255 (pass + 1)

/-- The running increment on entering a step with this component of its set; kept where it is absent (R96). -/
def incrementOf (c : Option Component) (old : BitVec 16) : BitVec 16 :=
  match c with
  | none => old
  | some c => c.increment

/-- The record with its running increments set by the sound entered (R96). -/
def withIncrements (p : Plan) (sound : Option Nat) (r : ToneRecord) : ToneRecord :=
  match sound with
  | none => r
  | some i =>
    match p.sets[i]? with
    | none => r
    | some set => { r with inc1 := incrementOf set.c1 r.inc1, inc2 := incrementOf set.c2 r.inc2 }

/-- The generator enters a step (R99). -/
def enterStep (p : Plan) (i : Nat) (st : CadenceStep) (r : ToneRecord) : ToneRecord :=
  match st.duration with
  | some d => withIncrements p st.sound { r with mode := .timed, step := i, remaining := d }
  | none => withIncrements p st.sound { r with mode := .held, step := i, remaining := 0 }

/-- The search of R99 from a candidate, examining at most the given number of candidates. -/
def search (p : Plan) (grade : Nat) (left candidate : Nat) (r : ToneRecord) : ToneRecord :=
  match left with
  | 0 => { r with mode := .waiting, step := candidate, remaining := 0 }
  | left + 1 =>
    match p.steps[candidate]? with
    | none => { r with mode := .waiting, step := candidate, remaining := 0 }
    | some st =>
      if condHolds st.cond r.listeners grade r.pass then enterStep p candidate st r
      else search p grade left (successor p candidate) { r with pass := passAfter p candidate r.pass }

/-- A search from a candidate over the plan's step count (R99). -/
def searchFrom (p : Plan) (grade candidate : Nat) (r : ToneRecord) : ToneRecord :=
  search p grade p.steps.length candidate r

/-- A search from the successor of the current step, with the pass count raised where that wraps (R99, R100). -/
def searchOn (p : Plan) (grade : Nat) (r : ToneRecord) : ToneRecord :=
  searchFrom p grade (successor p r.step) { r with pass := passAfter p r.step r.pass }

/-- The cadence of a HELD step whose condition is tested again (R100). -/
def retestHeld (p : Plan) (grade : Nat) (r : ToneRecord) : ToneRecord :=
  match p.steps[r.step]? with
  | none => r
  | some st => if condHolds st.cond r.listeners grade r.pass then r else searchOn p grade r

/-- The cadence work of a record at a boundary (R100). -/
def cadenceWork (p : Plan) (grade : Nat) (r : ToneRecord) : ToneRecord :=
  match r.mode with
  | .starting => r
  | .timed =>
    let r := { r with remaining := r.remaining - 1 }
    if r.remaining = 0 then searchOn p grade r else r
  | .held => retestHeld p grade r
  | .waiting => searchFrom p grade r.step r

/-- The entry of step 0 in the frame after the binding (R97). -/
def cadenceEntry (p : Plan) (grade : Nat) (r : ToneRecord) : ToneRecord :=
  match r.mode with
  | .starting => searchFrom p grade 0 { r with pass := 0 }
  | _ => r

/-! ### What a generator sounds (R95, R96) -/

/-- The set a record sounds, none for silence (R95). -/
def soundingSet (p : Plan) (r : ToneRecord) : Option ToneSet :=
  match r.mode with
  | .starting => none
  | .waiting => none
  | _ =>
    match p.steps[r.step]? with
    | none => none
    | some st =>
      match st.sound with
      | none => none
      | some i => p.sets[i]?

/-- The code of a tone channel in a frame (R116). -/
def toneFrameCode (p : Plan) (r : ToneRecord) : Code :=
  match soundingSet p r with
  | none => silence
  | some set => toneCode set r.phase1 r.phase2

/-- The phases advanced after the frame's sample: in TIMED, HELD and WAITING alike (R96). -/
def advancePhases (r : ToneRecord) : ToneRecord :=
  match r.mode with
  | .starting => r
  | _ => { r with phase1 := r.phase1 + r.inc1, phase2 := r.phase2 + r.inc2 }

/-- The plan a tone record runs; a plan that is gone has no steps and sounds silence. -/
def planOf (s : Station) (r : ToneRecord) : Plan :=
  match findPlan s r.plan with
  | some p => p
  | none => { id := r.plan, sets := [], steps := [], loop := 0 }

/-- A channel's tone work at the start of a frame: cadence entry, the frame's code, the phase advance (R95 to R97).
The grade is the one in force in the frame. -/
def toneFrame (c : Channel) (s : Station) : Station :=
  match s.table.holding.get c with
  | .tone r =>
    let p := planOf s r
    let r := cadenceEntry p s.monitor.grade r
    { setHolding c (.tone (advancePhases r)) s with formed := s.formed.put c (some (toneFrameCode p r)) }
  | _ => s

/-! ### Listeners and the quiet timer (R101 to R103) -/

/-- The expiry of a tone channel's quiet timer (R102): the listeners cleared, the timer reloaded, STALE posted if any
were removed, and a channel whose standing mark is clear ended. -/
def expireTone (c : Channel) (w : Work) : Work :=
  match w.station.table.holding.get c with
  | .tone r =>
    let posts := if r.listeners = 0 then w.posts
      else w.posts ++ [{ kind := .stale, channel := some c, detail := r.listeners }]
    let r' := { r with listeners := 0, quiet := w.station.tables.quietPeriod }
    let w := { w with station := setHolding c (.tone r') w.station, posts := posts }
    if r.standing then w else w.endService c
  | _ => w

/-- Whether a tone channel's quiet timer stands at 0. -/
def toneQuietDue (c : Channel) (s : Station) : Bool :=
  match s.table.holding.get c with
  | .tone r => r.quiet == 0
  | _ => false

/-- The quiet timer of a tone channel stepped (R102). -/
def stepToneQuiet (c : Channel) (s : Station) : Station :=
  match s.table.holding.get c with
  | .tone r => setHolding c (.tone { r with quiet := r.quiet - 1 }) s
  | _ => s

/-- A channel's cadence work at a boundary, with the grade of the superframe just ended (R98, R100). -/
def toneCadence (c : Channel) (s : Station) : Station :=
  match s.table.holding.get c with
  | .tone r => setHolding c (.tone (cadenceWork (planOf s r) s.monitor.grade r)) s
  | _ => s

/-- A tone channel's boundary work: the quiet timer first, then, while the channel is still held, the cadence
(R100, R102). It runs before the monitor's work, so the grade it reads is the one of the superframe just ended. -/
def toneBoundary (c : Channel) (w : Work) : Work :=
  let w := { w with station := stepToneQuiet c w.station }
  let w := if toneQuietDue c w.station then expireTone c w else w
  { w with station := toneCadence c w.station }

/-- A timed step whose remaining count stands at 0 (R100). -/
def stepDue (c : Channel) (s : Station) : Bool :=
  match s.table.holding.get c with
  | .tone r => r.mode == .timed && r.remaining == 0
  | _ => false

/-- The search a step's expiry starts (R100). -/
def expireStep (c : Channel) (s : Station) : Station :=
  match s.table.holding.get c with
  | .tone r => setHolding c (.tone (searchOn (planOf s r) s.monitor.grade r)) s
  | _ => s

/-- A LEAVE on a tone channel (R101). -/
def toneLeave (c : Channel) (s : Station) : Station :=
  match s.table.holding.get c with
  | .tone r =>
    if r.listeners = 0 then s
    else
      let r' := { r with listeners := r.listeners - 1, quiet := s.tables.quietPeriod }
      let s := setHolding c (.tone r') s
      if r'.listeners = 0 && !r.standing then ((Work.begin s).endService c).finish else s
  | _ => s

/-! ### Starting a tone channel (R94) -/

/-- The increment of set 0 of a plan for a component, 0 where it is absent (R94). -/
def firstIncrement (p : Option Plan) (pick : ToneSet → Option Component) : BitVec 16 :=
  match p with
  | none => 0
  | some p =>
    match p.sets[0]? with
    | none => 0
    | some set => incrementOf (pick set) 0

/-- A tone channel record at its making (R94). -/
def newTone (s : Station) (plan : Nat) (standing : Bool) (listeners : Nat) (g : Fin 8) : ToneRecord :=
  { plan := plan, standing := standing, listeners := listeners, quiet := s.tables.quietPeriod, phase1 := 0,
    phase2 := 0, inc1 := firstIncrement (findPlan s plan) ToneSet.c1,
    inc2 := firstIncrement (findPlan s plan) ToneSet.c2, mode := .starting, step := 0, remaining := 0, pass := 0,
    generator := g }

/-- A pool channel taken into TONE with generator `g` (R25, R68, R104). STARTING sounds silence (R95). -/
def startTone (c : Channel) (plan : Nat) (standing : Bool) (listeners : Nat) (g : Fin 8) (s : Station) : Station :=
  { takeInto c (.tone (newTone s plan standing listeners g)) s with formed := s.formed.put c (some silence) }

/-- The table lets at most 8 channels be TONE (R34). -/
def toneRoom (s : Station) : Bool := decide (countHolding s Holding.isTone < 8)

/-! ### Standing tones (R104, R105) -/

/-- Whether a holding is a TONE channel running the plan, with its standing mark as given. -/
def Holding.runs (h : Holding) (plan : Nat) (standing : Bool) : Bool :=
  match h with
  | .tone r => r.plan == plan && r.standing == standing
  | _ => false

/-- A listed plan is covered while a TONE channel runs it with its standing mark set (R104). -/
def covered (s : Station) (plan : Nat) : Bool :=
  (numbers 48).any fun c => (s.table.holding.get c).runs plan true

/-- The standing mark of a tone channel set or cleared. -/
def markStanding (c : Channel) (mark : Bool) (s : Station) : Station :=
  match s.table.holding.get c with
  | .tone r => setHolding c (.tone { r with standing := mark }) s
  | _ => s

/-- The plan covered, where it can be (R104): by marking the lowest-numbered channel that runs it, or by a new
channel from the pool. -/
def coverPlan (plan : Nat) (s : Station) : Station :=
  match (numbers 48).find? fun c => (s.table.holding.get c).runs plan false with
  | some c => markStanding c true s
  | none =>
    match freeGenerator s, s.table.pool with
    | some g, c :: _ => if toneRoom s then startTone c plan true 0 g s else s
    | _, _ => s

/-- The first listed plan that is not covered. -/
def firstUncovered (s : Station) : Option Nat := s.tables.standing.find? fun p => !covered s p

/-- The standing start of a frame (R104): in SERVING alone. -/
def standingStart (s : Station) : Station :=
  if s.orders.state = .serving then
    match firstUncovered s with
    | some plan => coverPlan plan s
    | none => s
  else s

/-- Whether a holding is a standing channel. -/
def Holding.isStanding (h : Holding) : Bool :=
  match h with
  | .tone r => r.standing
  | _ => false

/-- One standing channel on entering DRAINING (R105): its mark cleared, and with no listeners it ends and goes to
NONE (log entry 10). -/
def drainStanding (c : Channel) (s : Station) : Station :=
  match s.table.holding.get c with
  | .tone r =>
    if r.standing then
      if r.listeners = 0 then returnChannel 0 c s else markStanding c false s
    else s
  | _ => s

/-- The standing marks on entering DRAINING (R105). -/
def drainAllStanding (s : Station) : Station := eachChannel drainStanding s

/-! ### The commands -/

/-- STEP_EXPIRY (R100): a search from the successor of a timed step whose remaining count stands at 0. -/
def execStepExpiry (c : Nat) (s : State) : Host.Outcome State Fault Refusal :=
  s.runChannel c fun c s => whenDue (stepDue c s) (expireStep c) s

/-- TONE_QUIET_EXPIRY (R102). -/
def execToneQuietExpiry (c : Nat) (s : State) : Host.Outcome State Fault Refusal :=
  s.runChannel c fun c s => whenDue (toneQuietDue c s) (fun s => (expireTone c (Work.begin s)).finish) s

end Sys2Proof.Machine
end

