-- ==== Sys2Proof/Machine/Engine.lean ====
section
/-! DEFINITION. The playback engines (chapter 8): rings, play marks, fetch pointers, wraps and arrivals. -/
namespace Sys2Proof.Machine

/-- What engine `e` keeps while it is bound. -/
def engineAt (s : Station) (e : Fin 16) : Option Engine := (s.engines.get e).bound

/-- A bound engine's fields replaced. -/
def setEngine (e : Fin 16) (eng : Engine) (s : Station) : Station :=
  { s with engines := s.engines.put e { s.engines.get e with bound := some eng } }

/-- The cycle record of the channel an engine is bound to. -/
def recordOf (s : Station) (eng : Engine) : Option CycleRecord :=
  match s.table.holding.get eng.channel with
  | .cycle r => some r
  | _ => none

/-! ### Binding (R119) -/

/-- An engine's fields at its binding (R119). -/
def Engine.fresh (c : Channel) (area : Area) : Engine :=
  { channel := c, area := area, pointer := { cycle := 0, burst := 0 }, mark := { cycle := 0, number := 0 }, ring := [],
    flights := [], run := false }

/-- An engine bound: its binding count rises by 1, wrapping (R119); its count of underruns goes on (log entry 38). -/
def bindEngine (e : Fin 16) (c : Channel) (area : Area) (s : Station) : Station :=
  { s with engines := s.engines.put e { s.engines.get e with
      count := (s.engines.get e).count + 1, bound := some (Engine.fresh c area) } }

/-! ### The play mark (R121 to R123) -/

/-- The play mark moved: samples older than it are dropped (R121). -/
def Engine.moveMark (eng : Engine) (p : Position) : Engine :=
  { eng with mark := p, ring := eng.ring.filter fun x => !x.position.before p }

/-- The stored code of the play mark, where the ring holds it (R121). -/
def Engine.answer (eng : Engine) : Option Code :=
  (eng.ring.find? fun x => x.position == eng.mark).map Sample.code

/-- The engine at the audio end of its playing cycle, when the channel goes on (R122, R123, R127): the run mark is
cleared, the mark moves to position 0 of the next cycle, and a pointer still within the ended cycle or past its end
wraps, latching the area given. -/
def Engine.audioEnd (eng : Engine) (area : Area) : Engine :=
  let next := eng.mark.cycle + 1
  let moved := { eng.moveMark { cycle := next, number := 0 } with run := false }
  if eng.pointer.cycle ≤ eng.mark.cycle then
    { moved with pointer := { cycle := next, burst := 0 }, area := area }
  else moved

/-- An underrun reported by engine `e` is one underrun counted (R122). -/
def countUnderrun (e : Fin 16) (s : Station) : Station :=
  { s with engines := s.engines.put e { s.engines.get e with underruns := (s.engines.get e).underruns + 1 } }

/-! ### Fetching (R124 to R127) -/

/-- The free space of an engine's ring (R124). -/
def Engine.freeSpace (eng : Engine) : Int := 32 - (eng.ring.length : Int) - 16 * (eng.flights.length : Int)

/-- Whether the engine has a request: its pointer stands on a burst and its free space is 16 or more (R124). -/
def Engine.requests (eng : Engine) : Bool :=
  decide (eng.pointer.burst < eng.area.length) && decide (16 ≤ eng.freeSpace)

/-- The burst address of an engine's request (R124). -/
def Engine.address (eng : Engine) : Nat := eng.area.base + eng.pointer.burst

/-- A request wholly before the play mark is aimed afresh at the burst that holds the mark (R125). -/
def Engine.reaim (eng : Engine) : Engine :=
  if eng.requests && decide (eng.pointer.cycle = eng.mark.cycle)
      && decide (16 * (eng.pointer.burst + 1) ≤ eng.mark.number) then
    { eng with pointer := { eng.pointer with burst := eng.mark.number / 16 } }
  else eng

/-- Whether the pointer is past the end of the playing cycle (R126): a cycle is playing, and the pointer stands past
its last burst. Past the end of the next cycle it waits for that cycle's start. -/
def Engine.wrapDue (eng : Engine) (substate : Substate) : Bool :=
  substate == .playing && decide (eng.pointer.cycle = eng.mark.cycle) && decide (eng.area.length ≤ eng.pointer.burst)

/-- The pointer wrapped to burst 0 of the next cycle, latching the area given (R126). -/
def Engine.wrap (eng : Engine) (area : Area) : Engine :=
  { eng with pointer := { cycle := eng.mark.cycle + 1, burst := 0 }, area := area }

/-- A fetch issued for the engine's request (R126): it is in flight, and the pointer moves to the next burst. -/
def Engine.issue (eng : Engine) : Engine :=
  { eng with
    flights := eng.flights ++ [eng.pointer]
    pointer := { eng.pointer with burst := eng.pointer.burst + 1 } }

/-- Engine `e` of the station wraps, where it is due (R126). -/
def wrapEngine (e : Fin 16) (s : Station) : Station :=
  match engineAt s e with
  | none => s
  | some eng =>
    match recordOf s eng with
    | none => s
    | some r =>
      if eng.wrapDue r.substate then setEngine e (eng.wrap (currentArea s r.announcement eng.area)) s else s

/-- Engine `e` of the station aims its request afresh, where it is due (R125). -/
def reaimEngine (e : Fin 16) (s : Station) : Station :=
  match engineAt s e with
  | none => s
  | some eng => setEngine e eng.reaim s

/-- Every engine in turn. -/
def eachEngine (f : Fin 16 → Station → Station) (s : Station) : Station := (numbers 16).foldl (fun s e => f e s) s

/-! ### Arrival (R128) -/

/-- The sixteen samples of a fetched burst, in order of position (R124). -/
def samplesOf (place : BurstPlace) (codes : List Code) : List Sample :=
  codes.mapIdx fun i k => { code := k, position := { cycle := place.cycle, number := 16 * place.burst + i } }

/-- A burst of the present binding reaches the engine: samples older than the mark are dropped, the others join the
ring (R128). -/
def Engine.arrive (eng : Engine) (place : BurstPlace) (codes : List Code) : Engine :=
  { eng with
    flights := eng.flights.erase place
    ring := eng.ring ++ (samplesOf place codes).filter fun x => !x.position.before eng.mark }

/-- Due data handed to its requester: a fetch of an earlier binding changes nothing (R128). -/
def deliver (item : DueItem) (s : Station) : Station :=
  match engineAt s item.engine with
  | none => s
  | some eng =>
    if (s.engines.get item.engine).count = item.count then setEngine item.engine (eng.arrive item.place item.codes) s
    else s

/-! ### Slack (R123, R131) -/

/-- The frames until play begins, for a channel in PRIMING or GAP (R123). -/
def framesUntilPlay (frame t : Nat) : Nat := 16 * t - frame

/-- An engine's slack (R131). -/
def Engine.slack (eng : Engine) (substate : Substate) (frame t : Nat) : Nat :=
  match substate with
  | .playing => eng.ring.length
  | _ => min 4095 (eng.ring.length + framesUntilPlay frame t)

end Sys2Proof.Machine
end

