-- ==== Sys2Proof/Machine/Cycle.lean ====
section
/-! DEFINITION. The cycle unit (chapter 5): boundary work, starts, audio ends, quiet timers, LEAVEs, play positions
and LATE. -/
namespace Sys2Proof.Machine

/-- The gap G of the entry a cycle record plays (R72, R77). -/
def gapOf (s : Station) (r : CycleRecord) : Nat :=
  match findEntry s r.announcement with
  | some e => e.gap
  | none => 0

/-- The trim of the entry a cycle record plays (R113). -/
def trimOf (s : Station) (r : CycleRecord) : Int :=
  match findEntry s r.announcement with
  | some e => e.trim
  | none => 0

/-- The length of the area the record's engine has latched (R77). -/
def latchedLength (s : Station) (r : CycleRecord) : Nat :=
  match engineAt s r.engine with
  | some eng => eng.area.length
  | none => 0

/-- The end check: nobody listens and nobody waits (R75, R76). -/
def CycleRecord.deserted (r : CycleRecord) : Bool := r.listeners == 0 && r.waiting.isEmpty

/-! ### Ending a channel (R85) -/

/-- A CYCLE channel ends: its engine is freed, its record discarded, the channel returned (R85). -/
def endCycle (c : Channel) (w : Work) : Work :=
  match w.station.table.holding.get c with
  | .cycle r => Work.endService c { w with station := freeEngineSlot r.engine w.station }
  | _ => w

/-! ### The start boundary (R76) -/

/-- The record of a cycle that starts, its audio `length` bursts long and its gap `gap` (R76). -/
def CycleRecord.begin (r : CycleRecord) (length gap : Nat) : CycleRecord :=
  { r with
    number := r.number + 1
    listeners := r.listeners + r.waiting.length
    waiting := []
    t := length + gap
    substate := .playing
    position := 0
    late := false }

/-- The start boundary of a channel (R76). -/
def startCycle (c : Channel) (w : Work) : Work :=
  match w.station.table.holding.get c with
  | .cycle r =>
    if r.deserted then endCycle c w
    else { w with
      station := setHolding c (.cycle (r.begin (latchedLength w.station r) (gapOf w.station r))) w.station }
  | _ => w

/-- T stands at 0 and no audio end comes before the start (R74). -/
def startDue (c : Channel) (s : Station) : Bool :=
  match s.table.holding.get c with
  | .cycle r => r.t == 0 && r.substate != .playing
  | _ => false

/-! ### The audio end (R75) -/

/-- T stands at G in PLAYING (R75). -/
def audioEndDue (c : Channel) (s : Station) : Bool :=
  match s.table.holding.get c with
  | .cycle r => r.substate == .playing && r.t == gapOf s r
  | _ => false

/-- The engine told of an audio end after which the channel goes on (R123, R127). -/
def engineAudioEnd (r : CycleRecord) (s : Station) : Station :=
  match engineAt s r.engine with
  | some eng => setEngine r.engine (eng.audioEnd (currentArea s r.announcement eng.area)) s
  | none => s

/-- The audio end of a channel (R75): the end check, then the gap, or with G = 0 the start boundary at once. -/
def endAudio (c : Channel) (w : Work) : Work :=
  match w.station.table.holding.get c with
  | .cycle r =>
    if r.deserted then endCycle c w
    else
      let w := { w with station := setHolding c (.cycle { r with substate := .gap }) (engineAudioEnd r w.station) }
      if startDue c w.station then startCycle c w else w
  | _ => w

/-! ### The quiet timer (R82, R83) -/

/-- A cycle's quiet timer stands at 0. -/
def cycleQuietDue (c : Channel) (s : Station) : Bool :=
  match s.table.holding.get c with
  | .cycle r => r.quiet == 0
  | _ => false

/-- The expiry of a cycle's quiet timer (R83): the listeners cleared, the timer reloaded, STALE posted if any were
removed; the pending join list and the channel stay. -/
def expireCycle (c : Channel) (w : Work) : Work :=
  match w.station.table.holding.get c with
  | .cycle r =>
    { w with
      station := setHolding c (.cycle { r with listeners := 0, quiet := w.station.tables.quietPeriod }) w.station
      posts := if r.listeners = 0 then w.posts
        else w.posts ++ [{ kind := .stale, channel := some c, detail := r.listeners }] }
  | _ => w

/-- A cycle's quiet timer stepped (R74, R82). -/
def stepCycleQuiet (c : Channel) (s : Station) : Station :=
  match s.table.holding.get c with
  | .cycle r => setHolding c (.cycle { r with quiet := r.quiet - 1 }) s
  | _ => s

/-! ### Boundary work (R74) -/

/-- T decreased by one (R74). -/
def stepCycleT (c : Channel) (s : Station) : Station :=
  match s.table.holding.get c with
  | .cycle r => setHolding c (.cycle { r with t := r.t - 1 }) s
  | _ => s

/-- A cycle that plays on: its next superframe begins with the position after the last one's 16 (R78). -/
def nextSuperframe (c : Channel) (s : Station) : Station :=
  match s.table.holding.get c with
  | .cycle r =>
    if r.substate = .playing then setHolding c (.cycle { r with position := 16 * (r.position / 16 + 1) }) s else s
  | _ => s

/-- The boundary work of a CYCLE channel, in the order of R74. -/
def cycleBoundary (c : Channel) (w : Work) : Work :=
  let w := { w with station := stepCycleQuiet c w.station }
  let w := if cycleQuietDue c w.station then expireCycle c w else w
  let w := { w with station := stepCycleT c w.station }
  if audioEndDue c w.station then endAudio c w
  else if startDue c w.station then startCycle c w
  else { w with station := nextSuperframe c w.station }

/-! ### Playing (R78, R89, R113, R121, R122) -/

/-- The play position of the frame numbered `frame`, from the one set last: in frame 0 the boundary work has set it
(R78). -/
def framePosition (position frame : Nat) : Nat := if frame = 0 then position else 16 * (position / 16) + frame

/-- A PLAYING channel's frame: the mark is set, the engine answers, the sample path forms the code, an underrun that
begins a run is counted, and one in the first burst gives LATE once a cycle. -/
def playFrame (c : Channel) (w : Work) : Work :=
  let s := w.station
  match s.table.holding.get c with
  | .cycle r =>
    if r.substate = .playing then
      match engineAt s r.engine with
      | none => w
      | some eng =>
        let p := framePosition r.position s.port.frameCount
        let eng := eng.moveMark { cycle := eng.mark.cycle, number := p }
        match eng.answer with
        | some k =>
          let s := setEngine r.engine { eng with run := false } s
          let s := setHolding c (.cycle { r with position := p }) s
          { w with station := { s with formed := s.formed.put c (some (trimCode (trimOf s r) k)) } }
        | none =>
          let isLate := !eng.run && decide (p < 16) && !r.late
          let s := setEngine r.engine { eng with run := true } (whenDue (!eng.run) (countUnderrun r.engine) s)
          let s := setHolding c (.cycle { r with position := p, late := r.late || isLate }) s
          { w with
            station := { s with formed := s.formed.put c (some silence) }
            posts := if isLate then w.posts ++ [{ kind := .late, channel := some c, detail := r.number.toNat }]
              else w.posts }
    else w
  | _ => w

/-! ### LEAVE (R80) -/

/-- The pending join list without its oldest record of a tag. -/
def removeTag (tag : BitVec 8) (l : List PendingJoin) : List PendingJoin := l.eraseP fun p => p.tag == tag

/-- A LEAVE on a cycle record, by the cases of R80. -/
def CycleRecord.leave (r : CycleRecord) (tag : BitVec 8) (quietPeriod : Nat) : CycleRecord :=
  if r.waiting.any fun p => p.tag == tag then
    { r with waiting := removeTag tag r.waiting, quiet := quietPeriod }
  else if r.listeners = 0 then r
  else { r with listeners := r.listeners - 1, quiet := quietPeriod }

/-- A LEAVE on a CYCLE channel (R80). -/
def cycleLeave (c : Channel) (tag : BitVec 8) (s : Station) : Station :=
  match s.table.holding.get c with
  | .cycle r => setHolding c (.cycle (r.leave tag s.tables.quietPeriod)) s
  | _ => s

/-! ### The commands -/

/-- CYCLE_QUIET_EXPIRY (R83). -/
def execCycleQuietExpiry (c : Nat) (s : State) : Host.Outcome State Fault Refusal :=
  s.runChannel c fun c s => whenDue (cycleQuietDue c s) (fun s => (expireCycle c (Work.begin s)).finish) s

/-- AUDIO_END (R75). -/
def execAudioEnd (c : Nat) (s : State) : Host.Outcome State Fault Refusal :=
  s.runChannel c fun c s => whenDue (audioEndDue c s) (fun s => (endAudio c (Work.begin s)).finish) s

/-- START_BOUNDARY (R76). -/
def execStartBoundary (c : Nat) (s : State) : Host.Outcome State Fault Refusal :=
  s.runChannel c fun c s => whenDue (startDue c s) (fun s => (startCycle c (Work.begin s)).finish) s

end Sys2Proof.Machine
end

