-- ==== Sys2Proof/Machine/Recorder.lean ====
section
/-! DEFINITION. The recorder (chapter 11): finding the voice, capture, its stops, and the swap of a commit. -/
namespace Sys2Proof.Machine

/-! ### The record ring (R161, R165) -/

/-- The recorder has a request while the oldest 16 codes of the ring make up a burst (R165). -/
def Recording.requests (r : Recording) : Bool := decide (16 ≤ r.ring.length)

/-- The slack of the recorder (R131). -/
def Recording.slack (r : Recording) : Nat := 32 - r.ring.length

/-- The base of an entry's alternate area (R160). -/
def alternateBase (s : Station) (id : Nat) : Nat :=
  match findEntry s id with
  | some e => e.alternate.getD 0
  | none => 0

/-- The burst address of the recorder's request (R165). -/
def recordAddress (s : Station) (r : Recording) : Nat := alternateBase s r.entry + r.nextBurst

/-- The codes of the ring up to the last loud burst (R166, R167). -/
def Recording.kept (r : Recording) : List Code := r.ring.take (16 * (r.lastLoud + 1) - 16 * r.nextBurst)

/-- Codes filled out to whole bursts with silence (R167). -/
def padBurst (l : List Code) : List Code := l ++ List.replicate ((16 - l.length % 16) % 16) silence

/-! ### The swap (R168) -/

/-- An entry whose areas are swapped, the new current area `length` bursts long (R168). -/
def Entry.swap (e : Entry) (length : Nat) : Entry :=
  match e.alternate with
  | none => e
  | some b => { e with area := { base := b, length := length }, alternate := some e.area.base }

/-- The directory with an entry's areas swapped. -/
def swapAreas (id length : Nat) (s : Station) : Station :=
  { s with tables := { s.tables with
      directory := s.tables.directory.map fun e => if e.id = id then e.swap length else e } }

/-- A commit whose ring is empty makes its swap, and the recorder becomes IDLE (R168). -/
def settleCommit (s : Station) : Station :=
  match s.recorder with
  | none => s
  | some r =>
    if r.phase = .committing && r.ring.isEmpty then { swapAreas r.entry (r.lastLoud + 1) s with recorder := none }
    else s

/-- The recorder gives up the 16 codes of a PUT (R165, R168). -/
def recorderPut (s : Station) : Station :=
  match s.recorder with
  | none => s
  | some r =>
    settleCommit { s with recorder := some { r with ring := r.ring.drop 16, nextBurst := r.nextBurst + 1 } }

/-! ### Finding the voice and capture (R163, R164) -/

/-- Capture begins with the four codes of the loud run (R163). -/
def Recording.beginCapture (r : Recording) : Recording :=
  { r with
    phase := .capturing, ring := r.loudRun, placed := r.loudRun.length, lastLoud := 0, quietRun := 0, loudRun := [] }

/-- A code heard in SEARCHING joins the loud run or empties it (R163). -/
def Recording.hear (r : Recording) (isLoud : Bool) (k : Code) : Recording :=
  { r with loudRun := if isLoud then r.loudRun ++ [k] else [] }

/-- A code of CAPTURING placed, or dropped where the ring holds 32, with its verdict (R164). -/
def Recording.capture (r : Recording) (isLoud : Bool) (k : Code) : Recording :=
  let full := decide (32 ≤ r.ring.length)
  { r with
    ring := if full then r.ring else r.ring ++ [k]
    placed := if full then r.placed else r.placed + 1
    damaged := r.damaged || full
    lastLoud := if isLoud && !full then r.placed / 16 else r.lastLoud
    quietRun := if isLoud then (if full then r.quietRun else 0) else r.quietRun + 1 }

/-! ### The stops of capture (R166) -/

/-- The recording at a stop: HELD, with the codes after the last loud burst dropped (R166). -/
def Recording.stop (r : Recording) : Recording := { r with phase := .held, ring := r.kept }

/-- The length a COMMIT would give now (R166). -/
def Recording.length (r : Recording) : Nat := r.lastLoud + 1

/-- Capture stops and RECORD-END is posted for the input channel (R166). -/
def stopCapture (s : Station) : Station :=
  match s.recorder with
  | none => s
  | some r =>
    post { kind := .recordEnd, channel := r.input, detail := min 4095 r.length } { s with recorder := some r.stop }

/-- The loud run holds four codes (R163). -/
def captureDue (s : Station) : Bool :=
  match s.recorder with
  | none => false
  | some r => r.phase == .searching && decide (4 ≤ r.loudRun.length)

/-- The quiet run has reached E superframes of frames (R166). -/
def endSilenceDue (s : Station) : Bool :=
  match s.recorder with
  | none => false
  | some r => r.phase == .capturing && decide (16 * s.tables.endSilence ≤ r.quietRun)

/-- The recording fills its area (R166). -/
def fullAreaDue (s : Station) : Bool :=
  match s.recorder with
  | none => false
  | some r => r.phase == .capturing && decide (16 * s.tables.areaSize ≤ r.placed)

/-- Capture started where it is due (R163). -/
def startCapture (s : Station) : Station :=
  match s.recorder with
  | none => s
  | some r => { s with recorder := some r.beginCapture }

/-- The code read at the input channel's sample position in a frame (R12, R117, R163, R164, R166). -/
def recorderSample (k : Code) (s : Station) : Station :=
  match s.recorder with
  | none => s
  | some r =>
    let isLoud := loud s.tables.threshold k
    match r.phase with
    | .searching =>
      if r.started then
        let s := { s with recorder := some (r.hear isLoud k) }
        whenDue (captureDue s) startCapture s
      else s
    | .capturing =>
      let s := { s with recorder := some (r.capture isLoud k) }
      let s := whenDue (endSilenceDue s) stopCapture s
      whenDue (fullAreaDue s) stopCapture s
    | _ => s

/-- The first boundary after the acceptance starts the search (R163). -/
def startSearch (s : Station) : Station :=
  match s.recorder with
  | none => s
  | some r => { s with recorder := some { r with started := true } }

/-! ### Beginning and finishing (R162, R167) -/

/-- The recording record at an acceptance (R162). -/
def Recording.fresh (entry cls : Nat) (input : Channel) : Recording :=
  { phase := .searching, entry := entry, cls := cls, input := some input, started := false, loudRun := [], placed := 0,
    nextBurst := 0, lastLoud := 0, quietRun := 0, damaged := false, ring := [] }

/-- The input channel returned to the channel table, where there is one (R167). -/
def returnInput (r : Recording) (s : Station) : Station :=
  match r.input with
  | none => s
  | some c => returnChannel s.table.target c s

/-- An accepted FINISH DISCARD (R167). -/
def discardRecording (s : Station) : Station :=
  match s.recorder with
  | none => s
  | some r => returnInput r { s with recorder := none }

/-- The recording an accepted FINISH COMMIT leaves (R167): no input channel, the ring trimmed and filled out. -/
def Recording.commit (r : Recording) : Recording :=
  { r with phase := .committing, input := none, ring := padBurst r.kept }

/-- An accepted FINISH COMMIT (R167, R168). -/
def commitRecording (s : Station) : Station :=
  match s.recorder with
  | none => s
  | some r => settleCommit (returnInput r { s with recorder := some r.commit })

/-! ### The commands -/

/-- CAPTURE_START (R163). -/
def execCaptureStart (s : State) : Host.Outcome State Fault Refusal :=
  s.run fun s => whenDue (captureDue s) startCapture s

/-- END_SILENCE_STOP (R166). -/
def execEndSilenceStop (s : State) : Host.Outcome State Fault Refusal :=
  s.run fun s => whenDue (endSilenceDue s) stopCapture s

/-- FULL_AREA_STOP (R166). -/
def execFullAreaStop (s : State) : Host.Outcome State Fault Refusal :=
  s.run fun s => whenDue (fullAreaDue s) stopCapture s

end Sys2Proof.Machine
end

