-- ==== Sys2Proof/Machine/Loader.lean ====
section
/-! DEFINITION. The loader (chapter 12) and the image layouts it reads (section 13.3). -/
namespace Sys2Proof.Machine

/-! ### Bytes (section 13.3: high byte first) -/

/-- Byte `i` of a run of bytes, as a number. -/
def byteAt (bs : List Byte) (i : Nat) : Nat := (bs.getD i 0).toNat

/-- The two-byte number at byte `i`. -/
def wordAt (bs : List Byte) (i : Nat) : Nat := 256 * byteAt bs i + byteAt bs (i + 1)

/-- The four-byte number at byte `i`. -/
def longAt (bs : List Byte) (i : Nat) : Nat := 65536 * wordAt bs i + wordAt bs (i + 2)

/-- Bit `b` of a number. -/
def bitOf (n b : Nat) : Bool := n / 2 ^ b % 2 == 1

/-! ### The CRC (R172) -/

/-- The register after one bit (R172). -/
def crcBit (r : BitVec 16) (bit : Bool) : BitVec 16 :=
  if r.getLsbD 15 == bit then r <<< 1 else (r <<< 1) ^^^ 4129#16

/-- The register after one byte, its most significant bit first (R172). -/
def crcByte (r : BitVec 16) (b : Byte) : BitVec 16 :=
  [7, 6, 5, 4, 3, 2, 1, 0].foldl (fun r i => crcBit r (b.getLsbD i)) r

/-! ### The header (section 13.3) -/

/-- The format id of a station image. -/
def formatId : Nat := 19201

/-- The read latency L of a header. -/
def headerLatency (h : List Byte) : Nat := byteAt h 13

/-- The plan count of a header. -/
def planCount (h : List Byte) : Nat := byteAt h 14

/-- The directory entry count of a header. -/
def entryCount (h : List Byte) : Nat := byteAt h 15

/-- The record pair count of a header. -/
def pairCount (h : List Byte) : Nat := byteAt h 16

/-- The standing id count of a header. -/
def standingCount (h : List Byte) : Nat := byteAt h 17

/-- The record area size Z of a header. -/
def headerAreaSize (h : List Byte) : Nat := wordAt h 10

/-- The counts exceed the station's capacity (R173). -/
def countFault (h : List Byte) : Bool :=
  decide (32 < planCount h) || decide (128 < entryCount h) || decide (8 < pairCount h) || decide (4 < standingCount h)

/-! ### The records (section 13.3, R180) -/

/-- A component from its increment and attenuation bytes: absent where the increment is 32,768 or more (R180). -/
def parseComponent (increment attenuation : Nat) : Option Component :=
  if increment < 32768 then some { increment := BitVec.ofNat 16 increment, attenuation := attenuation % 64 } else none

/-- A plan's tone sets. -/
def parseSets (count : Nat) (bs : List Byte) : List ToneSet :=
  match count with
  | 0 => []
  | count + 1 =>
    { c1 := parseComponent (wordAt bs 0) (byteAt bs 2), c2 := parseComponent (wordAt bs 3) (byteAt bs 5) }
      :: parseSets count (bs.drop 6)

/-- A condition byte (R180). -/
def parseCond (b : Nat) : Cond :=
  match b % 8 with
  | 1 => .noListeners
  | 2 => .listeners
  | 3 => .gradeHigh
  | 4 => .gradeLow
  | 5 => .firstPass
  | 6 => .laterPass
  | _ => .always

/-- A plan's cadence steps. -/
def parseSteps (count : Nat) (bs : List Byte) : List CadenceStep :=
  match count with
  | 0 => []
  | count + 1 =>
    { sound := if byteAt bs 0 = 255 then none else some (byteAt bs 0)
      duration := if bitOf (wordAt bs 1) 15 then none else some (wordAt bs 1 % 4096)
      cond := parseCond (byteAt bs 3) }
      :: parseSteps count (bs.drop 4)

/-- A plan record. -/
def parsePlan (bs : List Byte) : Plan :=
  { id := byteAt bs 0
    sets := parseSets (byteAt bs 1) (bs.drop 4)
    steps := parseSteps (byteAt bs 2) (bs.drop (4 + 6 * byteAt bs 1))
    loop := byteAt bs 3 }

/-- The length of a plan record, known once its head of 4 bytes is read. -/
def planLength (bs : List Byte) : Nat := if bs.length < 4 then 4 else 4 + 6 * byteAt bs 1 + 4 * byteAt bs 2

/-- A directory record (R180). -/
def parseEntry (bs : List Byte) : RawEntry :=
  { id := wordAt bs 0
    guarded := bitOf (byteAt bs 2) 0
    hasPair := bitOf (byteAt bs 2) 1
    hasShort := bitOf (byteAt bs 2) 2
    pairNumber := byteAt bs 3
    shortId := wordAt bs 4
    base := longAt bs 6
    length := wordAt bs 10
    gap := wordAt bs 12 % 4096
    window := wordAt bs 14 % 4096
    trim := (bs.getD 16 0).toInt }

/-- A record pair record. -/
def parsePair (bs : List Byte) : RecordPair := { number := byteAt bs 0, first := longAt bs 1, second := longAt bs 5 }

/-- All records have been read. -/
def Loader.recordsDone (l : Loader) : Bool :=
  decide (planCount l.header ≤ l.plans.length) && decide (entryCount l.header ≤ l.entries.length)
    && decide (pairCount l.header ≤ l.pairs.length)

/-- The loader in RECORDS, or in CHECK where no record is left (R171). -/
def Loader.settleRecords (l : Loader) : Loader :=
  { l with phase := if l.recordsDone then .check else .records }

/-- The record being read is taken where its bytes are complete. -/
def Loader.takeRecord (l : Loader) : Loader :=
  let bs := l.partBytes
  if l.plans.length < planCount l.header then
    if planLength bs ≤ bs.length && decide (4 ≤ bs.length) then
      Loader.settleRecords { l with plans := l.plans ++ [parsePlan bs], partBytes := [] }
    else l
  else if l.entries.length < entryCount l.header then
    if 17 ≤ bs.length then Loader.settleRecords { l with entries := l.entries ++ [parseEntry bs], partBytes := [] }
    else l
  else if 9 ≤ bs.length then Loader.settleRecords { l with pairs := l.pairs ++ [parsePair bs], partBytes := [] }
  else l

/-! ### The checks (R173) -/

/-- Class other than A (1) or B (2), L other than 1 or 2, or class B with L = 1 (R173). -/
def classFault (h : List Byte) : Bool :=
  let cls := byteAt h 12
  let l := headerLatency h
  !(cls == 1 || cls == 2) || !(l == 1 || l == 2) || (cls == 2 && l == 1)

/-- A cadence step at fault: a set index not below the set count, or a timed step of duration 0 (R173). -/
def stepFault (setCount : Nat) (st : CadenceStep) : Bool :=
  (match st.sound with
    | some i => decide (setCount ≤ i)
    | none => false)
  || st.duration == some 0

/-- A plan record at fault (R173). -/
def planFault (p : Plan) : Bool :=
  decide (63 < p.id) || p.sets.isEmpty || decide (4 < p.sets.length) || p.steps.isEmpty || decide (8 < p.steps.length)
    || decide (p.steps.length ≤ p.loop) || p.steps.any (stepFault p.sets.length)

/-- Two of the numbers are equal. -/
def repeats (l : List Nat) : Bool := !decide l.Nodup

/-- A directory record at fault (R173). -/
def entryFault (e : RawEntry) : Bool := decide (e.id < 64) || decide (511 < e.id) || e.length == 0

/-- The record pairs at fault, with the area size Z (R173). -/
def pairFault (z : Nat) (entries : List RawEntry) (pairs : List RecordPair) : Bool :=
  let recordable := entries.filter RawEntry.hasPair
  (!pairs.isEmpty && decide (z < 16)) || pairs.any (fun p => decide (7 < p.number)) || repeats (pairs.map RecordPair.number)
    || recordable.any (fun e => !pairs.any fun p => p.number == e.pairNumber)
    || repeats (recordable.map RawEntry.pairNumber)
    || recordable.any (fun e => decide (z < e.length))

/-- The areas the loader checks: those of the entries with no pair, and both of every pair (R173). -/
def checkedAreas (z : Nat) (entries : List RawEntry) (pairs : List RecordPair) : List Area :=
  (entries.filter fun e => !e.hasPair).map (fun e => { base := e.base, length := e.length })
    ++ pairs.flatMap fun p => [{ base := p.first, length := z }, { base := p.second, length := z }]

/-- Two areas have a burst in common. -/
def Area.meets (a b : Area) : Bool := decide (a.base < b.base + b.length) && decide (b.base < a.base + a.length)

/-- Two areas of the list have a burst in common. -/
def anyMeet (l : List Area) : Bool :=
  match l with
  | [] => false
  | a :: rest => rest.any a.meets || anyMeet rest

/-- The number of bursts in the store (R135). -/
def burstCount : Nat := 4194304

/-- The areas at fault: one runs past the store's last burst, or two have a burst in common (R173). -/
def areaFault (l : List Area) : Bool := l.any (fun a => decide (burstCount < a.base + a.length)) || anyMeet l

/-- A structural fault of the image after its CRC (R173). -/
def imageFault (l : Loader) : Bool :=
  let z := headerAreaSize l.header
  classFault l.header || l.plans.any planFault || repeats (l.plans.map Plan.id)
    || l.entries.any entryFault || repeats (l.entries.map RawEntry.id)
    || pairFault z l.entries l.pairs || areaFault (checkedAreas z l.entries l.pairs)

/-! ### The tables (R174, R175) -/

/-- A trim clamped (R174). -/
def clampTrim (t : Int) : Int := max (-48) (min 24 t)

/-- The short form of a directory record: absent where it names no entry, or its own (R174). -/
def shortOf (entries : List RawEntry) (e : RawEntry) : Option Nat :=
  if e.hasShort && e.shortId != e.id && entries.any (fun x => x.id == e.shortId) then some e.shortId else none

/-- The record pair a directory record names. -/
def pairOf (pairs : List RecordPair) (e : RawEntry) : Option RecordPair :=
  if e.hasPair then pairs.find? fun p => p.number == e.pairNumber else none

/-- The directory entry of a record (R174, R175). -/
def buildEntry (entries : List RawEntry) (pairs : List RecordPair) (e : RawEntry) : Entry :=
  let p := pairOf pairs e
  { id := e.id
    guarded := e.guarded
    shortForm := shortOf entries e
    area := { base := (p.map RecordPair.first).getD e.base, length := e.length }
    alternate := p.map RecordPair.second
    pair := p.map RecordPair.number
    gap := e.gap
    window := e.window
    trim := clampTrim e.trim }

/-- A list with each repeat of an earlier number left out. -/
def keepFirst (seen l : List Nat) : List Nat :=
  match l with
  | [] => []
  | a :: rest => if seen.contains a then keepFirst seen rest else a :: keepFirst (seen ++ [a]) rest

/-- The standing-tone list (R174, R175): the header's ids that name a plan, each once. -/
def standingList (h : List Byte) (plans : List Plan) : List Nat :=
  keepFirst [] ((((h.drop 18).take (standingCount h)).map BitVec.toNat).filter fun i => plans.any fun p => p.id == i)

/-- The tables and settings the loader builds, with the clamps of R174. -/
def buildTables (l : Loader) : Tables :=
  let h := l.header
  { plans := l.plans
    directory := l.entries.map (buildEntry l.entries l.pairs)
    pairs := l.pairs
    standing := standingList h l.plans
    poolTarget := min 4 (byteAt h 2)
    quietPeriod := max 512 (wordAt h 3)
    congestionPlan := if l.plans.any (fun p => p.id == byteAt h 5) then some (byteAt h 5) else none
    threshold := max 16 (min 4095 (wordAt h 6))
    endSilence := max 1 (wordAt h 8)
    areaSize := headerAreaSize h }

/-! ### Loading (R171, R175, R176) -/

/-- LOADING ends (R42, R176): LISTENING with the pulse present, ISOLATED with it absent. -/
def endLoading (s : Station) : Station :=
  { s with
    loader := { s.loader with phase := .done }
    orders := if pulsePresent s then s.orders.listen else { s.orders with state := .isolated } }

/-- The image's checks at its CRC (R172 to R175): a fault halts the station; otherwise the tables are built and L is
handed to the store controller. -/
def checkImage (s : Station) : Station :=
  let l := s.loader
  if wordAt l.partBytes 0 ≠ l.crc.toNat || imageFault l then enterHalted s
  else
    { s with
      tables := buildTables l
      loader := { l with phase := .audio, partBytes := [], audioEntry := 0, audioBurst := 0, hand := [] }
      store := { s.store with setup := some (headerLatency l.header) } }

/-- The loader after a byte of the header or of a record is counted and taken into the CRC. -/
def Loader.feed (l : Loader) (b : Byte) : Loader :=
  { l with crc := crcByte l.crc b, readPosition := l.readPosition + 1 }

/-- A header byte (R171, R173). -/
def headerByte (b : Byte) (s : Station) : Station :=
  let l := { s.loader.feed b with header := s.loader.header ++ [b] }
  let s := { s with loader := l }
  if l.header.length = 2 then (if wordAt l.header 0 = formatId then s else enterHalted s)
  else if l.header.length = 22 then
    (if countFault l.header then enterHalted s else { s with loader := l.settleRecords })
  else s

/-- A byte of the records (R172). -/
def recordByte (b : Byte) (s : Station) : Station :=
  { s with loader := Loader.takeRecord { s.loader.feed b with partBytes := s.loader.partBytes ++ [b] } }

/-- A byte of the stored CRC (R172). -/
def crcByteRead (b : Byte) (s : Station) : Station :=
  let l := { s.loader with partBytes := s.loader.partBytes ++ [b], readPosition := s.loader.readPosition + 1 }
  let s := { s with loader := l }
  if l.partBytes.length = 2 then checkImage s else s

/-- The loader can take an audio byte: a burst is still to be read, and the burst in hand is not complete (R176). -/
def Loader.wantsAudio (l : Loader) (directory : List Entry) : Bool :=
  decide (l.audioEntry < directory.length) && decide (l.hand.length < 16)

/-- An audio byte (R176). -/
def audioByte (b : Byte) (s : Station) : Station :=
  if s.loader.wantsAudio s.tables.directory then
    { s with loader := { s.loader with hand := s.loader.hand ++ [b], readPosition := s.loader.readPosition + 1 } }
  else s

/-- The next flash byte, taken by the loader's phase (R171, R172, R176); outside LOADING no byte is read. -/
def takeFlashByte (b : Byte) (s : Station) : Station :=
  if s.orders.state = .loading then
    match s.loader.phase with
    | .header => headerByte b s
    | .records => recordByte b s
    | .check => crcByteRead b s
    | .audio => audioByte b s
    | .done => s
  else s

/-! ### The loader's request (R133, R176) -/

/-- The loader has a request while a complete burst is in hand. -/
def loaderRequests (s : Station) : Bool :=
  s.orders.state == .loading && s.loader.phase == .audio && decide (s.loader.hand.length = 16)

/-- The burst address of the loader's request: the entry's current area's base plus the burst (R176). -/
def loaderAddress (s : Station) : Nat :=
  match s.tables.directory[s.loader.audioEntry]? with
  | some e => e.area.base + s.loader.audioBurst
  | none => 0

/-- The loader after its burst in hand is taken: the next burst of the entry, or the next entry's first. -/
def Loader.nextAudio (l : Loader) (length : Nat) : Loader :=
  if l.audioBurst + 1 < length then { l with hand := [], audioBurst := l.audioBurst + 1 }
  else { l with hand := [], audioEntry := l.audioEntry + 1, audioBurst := 0 }

/-- The loader gives up its burst in hand at a PUT; the last one ends LOADING (R176). -/
def loaderPut (s : Station) : Station :=
  match s.tables.directory[s.loader.audioEntry]? with
  | none => s
  | some e =>
    let l := s.loader.nextAudio e.area.length
    let s := { s with loader := l }
    if l.audioEntry < s.tables.directory.length then s else endLoading s

/-- With no directory entry, LOADING ends at the first store step at which the store is READY (R176). -/
def loaderReady (s : Station) : Station :=
  if s.orders.state = .loading && s.loader.phase == .audio && s.tables.directory.isEmpty && s.store.state == .ready then
    endLoading s
  else s

/-! ### The command -/

/-- FLASH_BYTE (R172). -/
def execFlashByte (b : Byte) (s : State) : Host.Outcome State Fault Refusal := s.run (takeFlashByte b)

end Sys2Proof.Machine
end

