-- ==== Sys2Proof/Machine/Controller.lean ====
section
/-! DEFINITION. The fetch scheduler and the store controller (sections 8.7 and 9): the ranked list, what is legal at a
step, the command decided, and what each command does. -/
namespace Sys2Proof.Machine

/-! ### The ranked list (R131 to R133) -/

/-- A request before the fetch scheduler: who asks, the burst address, and the slack. -/
structure Request where
  who : Requester
  address : Nat
  slack : Nat
  deriving DecidableEq, Repr

/-- The request of engine `e`, if it has one (R124). -/
def engineRequest (s : Station) (e : Fin 16) : Option Request :=
  match engineAt s e with
  | none => none
  | some eng =>
    match recordOf s eng with
    | none => none
    | some r =>
      if eng.requests then
        some { who := .engine e, address := eng.address, slack := eng.slack r.substate s.port.frameCount r.t }
      else none

/-- The recorder's request, if it has one (R165). -/
def recorderRequest (s : Station) : Option Request :=
  match s.recorder with
  | none => none
  | some r =>
    if r.requests then some { who := .recorder, address := recordAddress s r, slack := r.slack } else none

/-- The loader's request, if it has one (R176); nothing competes with it (R133). -/
def loaderRequest (s : Station) : Option Request :=
  if loaderRequests s then some { who := .loader, address := loaderAddress s, slack := 0 } else none

/-- A request put into a ranked list behind those of no greater slack (R132). -/
def rankIn (q : Request) (l : List Request) : List Request :=
  match l with
  | [] => [q]
  | x :: rest => if q.slack < x.slack then q :: x :: rest else x :: rankIn q rest

/-- The ranked list of a step (R132): by slack, least first; at equal slack the recorder before any engine, and
engines by number. -/
def rankedList (s : Station) : List Request :=
  ((recorderRequest s).toList ++ (loaderRequest s).toList ++ (numbers 16).filterMap (engineRequest s)).foldl
    (fun l q => rankIn q l) []

/-! ### What is legal at a step (R138 to R141) -/

/-- The step of an earlier command lies at least `d` before step `n`; an absent step places no limit (R136, R139). -/
def farEnough (last : Option Nat) (d n : Nat) : Bool :=
  match last with
  | none => true
  | some k => decide (k + d ≤ n)

/-- A bank is closed at step `n`: CLOSED with no pending close, from the step after its last close (R137, R138). -/
def Bank.closedAt (b : Bank) (n : Nat) : Bool := b.openRow.isNone && b.pendingClose.isNone && farEnough b.lastClose 1 n

/-- Every bank is closed at step `n`. -/
def Store.allClosed (t : Store) : Bool := (numbers 8).all fun b => (t.banks.get b).closedAt t.step

/-- A bank stands open on a row, with no pending close (R138). -/
def Bank.openOn (b : Bank) (row : Nat) : Bool := b.openRow == some row && b.pendingClose.isNone

/-- OPEN keeps its distances (R139, R140): from the bank's last close, from the group's last OPEN, and at most three
OPENs in six steps; it names a row of the bank. -/
def Store.openLegal (t : Store) (b : Fin 8) (row : Nat) : Bool :=
  t.state == .ready && (t.banks.get b).closedAt t.step && farEnough (t.banks.get b).lastClose 2 t.step
    && ((numbers 8).all fun x => groupOf x != groupOf b || farEnough (t.banks.get x).lastOpen 2 t.step)
    && (decide (t.opens.length < 3) || farEnough t.opens.head? 6 t.step)
    && decide (row < 8192)

/-- FETCH and FETCH-CLOSE: the bank is open on the row, a row of the store, one step or more after its OPEN (R135,
R138, R139). -/
def Store.fetchLegal (t : Store) (b : Fin 8) (row : Nat) : Bool :=
  t.state == .ready && (t.banks.get b).openOn row && farEnough (t.banks.get b).lastOpen 1 t.step && decide (row < 8192)

/-- FETCH data is due at this step (R141). -/
def Store.dataDue (t : Store) : Bool := !t.lines.read.isEmpty || t.due.any fun d => d.step == t.step

/-- PUT and PUT-CLOSE: as a FETCH, and no FETCH data is due at this step (R141). -/
def Store.putLegal (t : Store) (b : Fin 8) (row : Nat) : Bool := t.fetchLegal b row && !t.dataDue

/-- CLOSE: the bank is open with no pending close, and far enough from its OPEN, its FETCH and its PUT (R138,
R139). -/
def Store.closeLegal (t : Store) (b : Fin 8) : Bool :=
  t.state == .ready && (t.banks.get b).openRow.isSome && (t.banks.get b).pendingClose.isNone
    && farEnough (t.banks.get b).lastOpen 2 t.step && farEnough (t.banks.get b).lastFetch 1 t.step
    && farEnough (t.banks.get b).lastPut 2 t.step

/-- The lowest-numbered bank whose CLOSE is legal (R146). -/
def Store.closable (t : Store) : Option (Fin 8) := (numbers 8).find? t.closeLegal

/-! ### The next command of a request (R142) -/

/-- Another requester of the list has a burst in the same bank and row (R142). -/
def shares (l : List Request) (q : Request) : Bool :=
  l.any fun x => x.who != q.who && bankOf x.address == bankOf q.address && rowOf x.address == rowOf q.address

/-- The read or write of a request, with a close where no other requester wants the row (R142). -/
def accessOf (l : List Request) (q : Request) : StoreCmd :=
  match q.who with
  | .engine e => .fetch e (!shares l q)
  | .recorder => .put .recorder (!shares l q)
  | .loader => .put .loader (!shares l q)

/-- The next command of a request (R142). -/
def nextCommand (t : Store) (l : List Request) (q : Request) : StoreCmd :=
  let b := t.banks.get (bankOf q.address)
  if b.pendingClose.isNone && b.openRow.isSome then
    if b.openRow = some (rowOf q.address) then accessOf l q else .close (bankOf q.address)
  else .openRow (bankOf q.address) (rowOf q.address)

/-- A request's next command is legal at this step (R138 to R141). -/
def legalFor (t : Store) (q : Request) (cmd : StoreCmd) : Bool :=
  match cmd with
  | .openRow b row => t.openLegal b row
  | .fetch _ _ => t.fetchLegal (bankOf q.address) (rowOf q.address)
  | .put _ _ => t.putLegal (bankOf q.address) (rowOf q.address)
  | .close b => t.closeLegal b
  | _ => false

/-- The next command of the first requester, in order of rank, whose next command is legal (R143 case 5). -/
def firstLegal (t : Store) (l rest : List Request) : Option StoreCmd :=
  match rest with
  | [] => none
  | q :: more => if legalFor t q (nextCommand t l q) then some (nextCommand t l q) else firstLegal t l more

/-! ### The decision of a step (R143) -/

/-- What the controller decides at a step: its renew work from here, and its command, if any. -/
structure Decision where
  work : RenewWork
  cmd : Option StoreCmd
  deriving DecidableEq, Repr

/-- A CLOSE toward every bank being closed, where one is legal (R146, R147, R149). -/
def Store.closing (t : Store) : Option StoreCmd := t.closable.map StoreCmd.close

/-- The decision while the store is READY (R143 cases 4 to 7). -/
def decideReady (s : Station) : Decision :=
  let t := s.store
  match t.work with
  | .entry => ⟨.entry, if t.allClosed && t.due.isEmpty then some .selfRenewEntry else t.closing⟩
  | .forced => ⟨.forced, if t.allClosed then some .renew else t.closing⟩
  | _ =>
    if (rankedList s).isEmpty then
      if -2 < t.debt then ⟨.early, if t.allClosed then some .renew else t.closing⟩ else ⟨.none, none⟩
    else ⟨.none, firstLegal t (rankedList s) (rankedList s)⟩

/-- The decision of a step (R143). A SETUP is issued with every bank closed, as R138 asks and R148 finds it. -/
def decideStep (s : Station) : Decision :=
  let t := s.store
  match t.state with
  | .selfRenew => ⟨t.work, if t.exitSignal then some .selfRenewExit else none⟩
  | .unset => ⟨t.work, if t.allClosed then t.setup.map StoreCmd.setup else none⟩
  | .ready => decideReady s
  | _ => ⟨t.work, none⟩

/-! ### What the commands do (R137) -/

/-- A bank record changed. -/
def Store.setBank (t : Store) (b : Fin 8) (f : Bank → Bank) : Store := { t with banks := t.banks.put b (f (t.banks.get b)) }

/-- OPEN (R137): the bank opens, and the step joins the open-window history, displacing the oldest. -/
def Store.doOpen (t : Store) (b : Fin 8) (row : Nat) : Store :=
  { t.setBank b fun x => { x with openRow := some row, lastOpen := some t.step } with
    opens := (t.opens ++ [t.step]).drop (t.opens.length - 2) }

/-- CLOSE (R137): the bank is CLOSED from the next step. -/
def Store.doClose (t : Store) (b : Fin 8) : Store :=
  t.setBank b fun x => { x with openRow := none, lastClose := some t.step }

/-- The bank record of a FETCH, or a FETCH-CLOSE, whose close is pending for the next step (R137). -/
def Store.markFetch (t : Store) (b : Fin 8) (close : Bool) : Store :=
  t.setBank b fun x => { x with
    lastFetch := some t.step, pendingClose := if close then some (t.step + 1) else x.pendingClose }

/-- The bank record of a PUT, or a PUT-CLOSE, whose close is pending two steps later (R137). -/
def Store.markPut (t : Store) (b : Fin 8) (close : Bool) : Store :=
  t.setBank b fun x => { x with
    lastPut := some t.step, pendingClose := if close then some (t.step + 2) else x.pendingClose }

/-- The due item of a FETCH for an engine (R126, R137, R141): the burst is read now and arrives L steps later. -/
def dueItem (s : Station) (e : Fin 16) (eng : Engine) : DueItem :=
  { step := s.store.step + s.store.latency.getD 0, engine := e, count := (s.engines.get e).count,
    place := eng.pointer, codes := readBurst s eng.address }

/-- FETCH or FETCH-CLOSE for an engine's request (R126, R137). -/
def doFetch (e : Fin 16) (close : Bool) (s : Station) : Station :=
  match engineAt s e with
  | none => s
  | some eng =>
    let t := { s.store.markFetch (bankOf eng.address) close with due := s.store.due ++ [dueItem s e eng] }
    wrapEngine e (setEngine e eng.issue { s with store := t })

/-- A burst of codes written at a burst address, and so carried by the data lines (R137, R152). -/
def writeBurst (a : Nat) (close : Bool) (codes : List Code) (s : Station) : Station :=
  let t := s.store.markPut (bankOf a) close
  { s with store := { t with
      memory := t.memory.writeAll (16 * a) codes, lines := { t.lines with written := some codes } } }

/-- PUT or PUT-CLOSE for the recorder's or the loader's request (R137, R141). -/
def doPut (who : Requester) (close : Bool) (s : Station) : Station :=
  match who with
  | .engine _ => s
  | .recorder =>
    match s.recorder with
    | none => s
    | some r => recorderPut (writeBurst (recordAddress s r) close (r.ring.take 16) s)
  | .loader => loaderPut (writeBurst (loaderAddress s) close s.loader.hand s)

/-- RENEW (R145). -/
def Store.doRenew (t : Store) : Store := { t with debt := t.debt - 1, state := .renewing, quiet := 2, work := .none }

/-- SETUP (R148). -/
def Store.doSetup (t : Store) (latency : Nat) : Store :=
  { t with latency := some latency, setup := none, state := .setting, quiet := 1 }

/-- SELF-RENEW entry (R149). -/
def Store.doEntry (t : Store) : Store := { t with state := .selfRenew, work := .none, debt := 0, frames := 0 }

/-- SELF-RENEW exit (R150). -/
def Store.doExit (t : Store) : Store :=
  { t with state := .waking, quiet := 4, exitSignal := false, debt := 0, frames := 0 }

/-- The burst address a command of the controller reads or writes. -/
def requestAddress (s : Station) (who : Requester) : Nat :=
  match who with
  | .engine e => ((engineAt s e).map Engine.address).getD 0
  | .recorder => (s.recorder.map (recordAddress s)).getD 0
  | .loader => loaderAddress s

/-- A command as the command lines carry it (R137, R152): FETCH and PUT by the bank and the slot of their burst. -/
def busCommand (s : Station) (cmd : StoreCmd) : BusCmd :=
  match cmd with
  | .openRow b row => .openRow b row
  | .fetch e close => .fetch (bankOf (requestAddress s (.engine e))) (slotOf (requestAddress s (.engine e))) close
  | .put who close => .put (bankOf (requestAddress s who)) (slotOf (requestAddress s who)) close
  | .close b => .close b
  | .renew => .renew
  | .setup latency => .setup latency
  | .selfRenewEntry => .selfRenewEntry
  | .selfRenewExit => .selfRenewExit

/-- A command carried out at the step in progress (R137). -/
def performCmd (cmd : StoreCmd) (s : Station) : Station :=
  match cmd with
  | .openRow b row => { s with store := s.store.doOpen b row }
  | .fetch e close => doFetch e close s
  | .put who close => doPut who close s
  | .close b => { s with store := s.store.doClose b }
  | .renew => { s with store := s.store.doRenew }
  | .setup latency => { s with store := s.store.doSetup latency }
  | .selfRenewEntry => { s with store := s.store.doEntry }
  | .selfRenewExit => { s with store := s.store.doExit }

/-- The step in progress has carried a command: no other may follow it, and the command lines show it (R137, R152). -/
def Store.carry (t : Store) (cmd : StoreCmd) (bus : BusCmd) : Store :=
  { t with issued := some cmd, lines := { t.lines with command := some bus } }

/-- A decision carried out: the renew work it leaves, and its command, which the step then carries (R137). -/
def performDecision (d : Decision) (s : Station) : Station :=
  let s := { s with store := { s.store with work := d.work } }
  match d.cmd with
  | none => s
  | some cmd =>
    let t := performCmd cmd s
    { t with store := t.store.carry cmd (busCommand s cmd) }

/-! ### What falls due at a step (R137, R138, R141) -/

/-- FETCH data falls due at or before this step (R141). -/
def arrivalDue (s : Station) : Bool := s.store.due.any fun d => decide (d.step ≤ s.store.step)

/-- Data due is carried by the data lines and handed over in order, and leaves the due list (R141, R152). -/
def arrivals (s : Station) : Station :=
  let now := s.store.due.filter fun d => decide (d.step ≤ s.store.step)
  let s := now.foldl (fun s d => deliver d s) s
  { s with store := { s.store with
      due := s.store.due.filter (fun d => !decide (d.step ≤ s.store.step))
      lines := { s.store.lines with read := s.store.lines.read ++ now.map DueItem.codes } } }

/-- A pending close of bank `b` falls due at or before this step (R137); in STOPPED none is carried out (R151). -/
def closeDue (b : Fin 8) (s : Station) : Bool :=
  match (s.store.banks.get b).pendingClose with
  | none => false
  | some k => decide (k ≤ s.store.step) && s.store.state != .stopped

/-- A pending close carried out at its own step (R137): the bank is CLOSED from the step after. -/
def carryClose (b : Fin 8) (s : Station) : Station :=
  { s with store := s.store.setBank b fun x => { x with openRow := none, pendingClose := none, lastClose := x.pendingClose } }

/-- Every pending close that falls due. -/
def pendingCloses (s : Station) : Station :=
  (numbers 8).foldl (fun s b => whenDue (closeDue b s) (carryClose b) s) s

/-- The store states with quiet steps (R138). -/
def StoreState.isQuiet (t : StoreState) : Bool :=
  match t with
  | .setting => true
  | .renewing => true
  | .waking => true
  | _ => false

/-- The quiet steps have run out (R138). -/
def quietEndDue (s : Station) : Bool := s.store.state.isQuiet && s.store.quiet == 0

/-- The store becomes READY (R138). -/
def endQuiet (s : Station) : Station := { s with store := { s.store with state := .ready } }

/-! ### The renew debt (R144, R146) -/

/-- The store states in which the debt and the frame count are counted (R144). -/
def StoreState.counts (t : StoreState) : Bool :=
  match t with
  | .setting => true
  | .ready => true
  | .renewing => true
  | .waking => true
  | _ => false

/-- The frame count stands at 8 (R144). -/
def riseDue (s : Station) : Bool := decide (8 ≤ s.store.frames)

/-- The renew debt rises; reaching 8 forces a renew, unless a self-renew entry is in hand (R144, R146). -/
def riseDebt (s : Station) : Station :=
  let debt := s.store.debt + 1
  { s with store := { s.store with
      frames := 0, debt := debt
      work := if 8 ≤ debt ∧ s.store.work ≠ .entry then .forced else s.store.work } }

/-- The start of a frame, accepted or local, for the store (R144). -/
def storeFrame (s : Station) : Station :=
  if s.store.state.counts then
    let s := { s with store := { s.store with frames := s.store.frames + 1 } }
    whenDue (riseDue s) riseDebt s
  else s

end Sys2Proof.Machine
end

