-- ==== Sys2Proof/Machine/Monitor.lean ====
section
/-! DEFINITION. The congestion monitor (chapter 10) and the order unit's own work at boundaries and frame starts
(R43, R45, R51). -/
namespace Sys2Proof.Machine

/-! ### Pressures (R153) -/

/-- The channel pressure of a free count H (R153). -/
def channelBand (free : Nat) : Nat := if 12 ≤ free then 0 else if 6 ≤ free then 1 else if 2 ≤ free then 2 else 3

/-- The engine pressure of a count of free engines (R153). -/
def engineBand (free : Nat) : Nat := if 6 ≤ free then 0 else if 3 ≤ free then 1 else if 1 ≤ free then 2 else 3

/-- The store pressure of a renew debt (R153). -/
def storeBand (debt : Int) : Nat := if debt ≤ 2 then 0 else if debt ≤ 4 then 1 else if debt ≤ 6 then 2 else 3

/-- The monitor with the pressures of a boundary (R153). -/
def Monitor.form (m : Monitor) (free engines : Nat) (debt : Int) : Monitor :=
  { m with
    channelPressure := channelBand free, enginePressure := engineBand engines, storePressure := storeBand debt }

/-- The raw grade: the largest of the three pressures (R154). -/
def Monitor.raw (m : Monitor) : Nat := max m.channelPressure (max m.enginePressure m.storePressure)

/-! ### The grade (R154, R156) -/

/-- The GRADE notice of a change (R156). -/
def Monitor.notice (m : Monitor) : Notice :=
  { kind := .grade, channel := none
    detail := gradeDetail m.grade m.channelPressure m.enginePressure m.storePressure }

/-- Eight boundaries in a row have had a lower raw grade (R154). -/
def Monitor.fallDue (m : Monitor) : Bool := decide (8 ≤ m.fall)

/-- The grade lowered by one (R154). -/
def Monitor.lower (m : Monitor) : Monitor := { m with grade := m.grade - 1, fall := 0 }

/-- The grade and the fall counter after the pressures of a boundary are formed (R154). -/
def Monitor.step (m : Monitor) : Monitor :=
  if m.grade < m.raw then { m with grade := m.raw, fall := 0 }
  else if m.raw = m.grade then { m with fall := 0 }
  else
    let m := { m with fall := m.fall + 1 }
    if m.fallDue then m.lower else m

/-- The states in which the monitor does its boundary work (R158): not in HALTED, and in ISOLATED no boundary is
signalled. -/
def StationState.monitored (st : StationState) : Bool :=
  match st with
  | .halted => false
  | .isolated => false
  | _ => true

/-- The monitor's boundary work (R153 to R156, R158). -/
def monitorBoundary (w : Work) : Work :=
  let s := w.station
  if s.orders.state.monitored then
    let m := (s.monitor.form s.table.free (freeEngines s) s.store.debt).step
    { w with
      station := { s with monitor := m }
      posts := if m.grade = s.monitor.grade then w.posts else w.posts ++ [m.notice] }
  else w

/-- A fall of the grade, with its notice (R154, R156). -/
def gradeFall (s : Station) : Station :=
  let m := s.monitor.lower
  post m.notice { s with monitor := m }

/-- The grade and the fall counter set to 0 (R157), but not in HALTED. -/
def clearGrade (s : Station) : Station :=
  if s.orders.state = .halted then s else { s with monitor := { s.monitor with grade := 0, fall := 0 } }

/-! ### LISTENING (R43) -/

/-- Sixteen boundaries have been counted in LISTENING (R43); not while the halt countdown runs (R51). -/
def listeningDue (s : Station) : Bool :=
  s.orders.state == .listening && s.orders.countdown.isNone && decide (16 ≤ s.orders.listening)

/-- The notice of a state entered (R43, R45). -/
def stateNotice (st : StationState) : Notice := { kind := .state, channel := none, detail := st.code }

/-- LISTENING ends in SERVING (R43). -/
def beginServing (s : Station) : Station := { s with orders := { s.orders with state := .serving, listening := 0 } }

/-- The order unit's boundary work in LISTENING (R43). -/
def listeningBoundary (w : Work) : Work :=
  let s := w.station
  if s.orders.state = .listening ∧ s.orders.countdown = none then
    let s := { s with orders := { s.orders with listening := s.orders.listening + 1 } }
    if listeningDue s then { w with station := beginServing s, posts := w.posts ++ [stateNotice .serving] }
    else { w with station := s }
  else w

/-! ### The halt countdown (R51) -/

/-- The halt countdown stands at 0 (R51). -/
def haltDue (s : Station) : Bool := s.orders.countdown == some 0

/-- The halt countdown decreased at a frame's start (R51). -/
def stepCountdown (s : Station) : Station :=
  match s.orders.countdown with
  | none => s
  | some n => whenDue (haltDue { s with orders := { s.orders with countdown := some (n - 1) } }) enterHalted
      { s with orders := { s.orders with countdown := some (n - 1) } }

/-! ### The work check of DRAINING (R45) -/

/-- The station still has work: a channel in TONE, CYCLE, RECORD or POOL, or an active recorder (R45). -/
def hasWork (s : Station) : Bool :=
  recorderActive s || (numbers 48).any fun c => (s.table.holding.get c).isHeld

/-- A station taken into RESTING, with the store sent into self-renew (R44, R45, R47). -/
def enterResting (s : Station) : Station :=
  { s with orders := { s.orders with state := .resting }, store := s.store.signalRest }

/-- The work check at a frame's start in DRAINING (R45); not while the halt countdown runs (R51). -/
def drainCheck (s : Station) : Station :=
  if s.orders.state = .draining ∧ s.orders.countdown = none ∧ hasWork s = false then
    post (stateNotice .resting) (enterResting s)
  else s

/-! ### The commands -/

/-- GRADE_FALL (R154). -/
def execGradeFall (s : State) : Host.Outcome State Fault Refusal :=
  s.run fun s => whenDue (s.monitor.fallDue && s.orders.state.monitored) gradeFall s

/-- LISTENING_COMPLETE (R43). -/
def execListeningComplete (s : State) : Host.Outcome State Fault Refusal :=
  s.run fun s => whenDue (listeningDue s) (fun s => post (stateNotice .serving) (beginServing s)) s

/-- HALT_COUNTDOWN_END (R51). -/
def execHaltCountdownEnd (s : State) : Host.Outcome State Fault Refusal :=
  s.run fun s => whenDue (haltDue s) enterHalted s

end Sys2Proof.Machine
end

