-- ==== Sys2Proof/Machine/Clock.lean ====
section
/-! DEFINITION. The resets, the pulse loss, the local frames and the store step (R4 to R6, R16, R32, R42, R143). -/
namespace Sys2Proof.Machine

/-! ### Pin reset (R42) -/

/-- The station after a pin reset with the given pins: a new draw numbers the store's undefined contents (R135). -/
def pinReset (pins : BitVec 4) (s : Station) : Station := Station.afterReset pins (s.draw + 1)

/-! ### Local frames (R6) -/

/-- A local frame begins (R6, R144). -/
def startLocalFrame (s : Station) : Station := storeFrame { s with port := { s.port with localSteps := 0 } }

/-- The pulse is absent and the local frame in progress has had its four store steps (R6). -/
def localFrameDue (s : Station) : Bool := !pulsePresent s && decide (4 ≤ s.port.localSteps)

/-! ### Pulse loss (R5, R32, R49) -/

/-- The port with a frame's positions yet to pass. -/
def Port.newFrame (p : Port) : Port :=
  { p with
    ownerNext := 0, sampleNext := 0, orderSeen := false, ownerOut := Tbl.fill 48 none, sampleOut := Tbl.fill 48 none
    replyOut := none }

/-- The port at a pulse loss (R5). -/
def Port.lose (p : Port) : Port := { p.newFrame with frameCount := 15, timer := none, breakCount := 0 }

/-- The state a pulse loss leaves, outside the halt countdown (R49). -/
def StationState.isolate (st : StationState) : StationState :=
  match st with
  | .serving => .isolated
  | .draining => .isolated
  | .listening => .isolated
  | st => st

/-- The order unit at a pulse loss, outside the halt countdown (R36, R49, R54). -/
def OrderUnit.lose (o : OrderUnit) : OrderUnit :=
  { o.clearNotices with
    list := [], seen0 := .nothing, seen1 := .nothing, seen2 := .nothing, noticeUsed := false, listening := 0
    state := o.state.isolate }

/-- The channel table's view and back-off list at a pulse loss (R17, R32). -/
def ChannelTable.lose (t : ChannelTable) : ChannelTable := { t with view := Tbl.fill 48 none, backOff := [] }

/-- Eight store steps have passed since the last accepted pulse (R5). -/
def pulseLossDue (s : Station) : Bool :=
  match s.port.timer with
  | none => false
  | some n => decide (8 ≤ n)

/-- A pulse loss (R5, R32, R49, R51, R157), and the local frame that begins at it (R6). -/
def pulseLoss (s : Station) : Station :=
  let halting := s.orders.countdown.isSome
  let s := dropAll (clearGrade s)
  let s := { s with port := s.port.lose, table := s.table.lose, orders := s.orders.lose, offer := none }
  startLocalFrame (if halting then enterHalted s else s)

/-! ### Shelf reset (R16, R32, R50) -/

/-- The break count stands at 16 (R16). -/
def breakDue (s : Station) : Bool := decide (16 ≤ s.port.breakCount)

/-- The order unit at a shelf reset, outside the halt countdown (R36, R50, R54). -/
def OrderUnit.breakReset (o : OrderUnit) : OrderUnit :=
  let o := { o.clearNotices with list := [] }
  match o.state with
  | .serving => o.listen
  | .draining => o.listen
  | .listening => o.listen
  | _ => o

/-- A shelf reset (R16, R32, R50, R51, R157). -/
def shelfReset (s : Station) : Station :=
  let halting := s.orders.countdown.isSome
  let s := dropAll (clearGrade s)
  let s := { s with
    port := { s.port with breakCount := 0 }, table := { s.table with backOff := [] }, orders := s.orders.breakReset
    offer := none }
  if halting then enterHalted s else s

/-! ### The store step (R4, R143) -/

/-- What comes about at a store step before its command: a local frame due, arrivals, pending closes, the end of a
load with no audio, requests aimed afresh (R6, R125, R137, R141, R176). Each is taken once, whoever asks for it
first in the step. -/
def prepareStep (s : Station) : Station :=
  let s := whenDue (localFrameDue s) startLocalFrame s
  eachEngine reaimEngine (loaderReady (pendingCloses (arrivals s)))

/-- Every wrap due at a store step (R126). -/
def wrapEngines (s : Station) : Station := eachEngine wrapEngine s

/-- The decision's PUT is the last of a commit, and makes its swap (R168). -/
def makesSwap (d : Decision) (s : Station) : Bool :=
  match d.cmd, s.recorder with
  | some (.put .recorder _), some r => r.phase == .committing && decide (r.ring.length ≤ 16)
  | _, _ => false

/-- A step's decision carried out on a prepared station, with its wraps. A wrap due at the step is made before the
step's ranking, and the decision made on that list stands also where the free value puts the wrap after the PUT (log
entry 39). Where a swap and a wrap come at the same step either may be taken first (R168, log entry 5). -/
def decideAndCarry (s : Station) : Station :=
  let wrapped := wrapEngines s
  let d := decideStep wrapped
  if makesSwap d wrapped && decide (wrapped.engines ≠ s.engines) then
    let t := if Config.swapFirst s.draw then wrapEngines (performDecision d s) else performDecision d wrapped
    { t with draw := s.draw + 1 }
  else performDecision d wrapped

/-- The store at the end of a step: a quiet step counted, the step number raised, the step's lines kept (R136, R138,
R152). -/
def closeStore (s : Station) : Station :=
  let t := s.store
  let quiet := if t.state.isQuiet && t.issued.isNone then t.quiet - 1 else t.quiet
  let s := { s with store := { t with quiet := quiet } }
  let s := if t.issued.isNone then whenDue (quietEndDue s) endQuiet s else s
  { s with store := { s.store with step := t.step + 1, issued := none, lines := StepLines.idle, shown := t.lines } }

/-- The local clock at the end of a step: the pulse timer, or the local frame's steps (R5, R6). -/
def Port.tick (p : Port) : Port :=
  match p.timer with
  | none => { p with localSteps := p.localSteps + 1 }
  | some n => { p with timer := some (n + 1) }

/-- A store step closed (R4, R5). -/
def closeStep (s : Station) : Station :=
  let s := closeStore s
  { s with port := s.port.tick }

/-- A store step counted whole (R4, R143): what falls due, the one command unless the step has carried it, and its
close. -/
def wholeStep (s : Station) : Station :=
  let s := prepareStep s
  closeStep (if s.store.issued.isSome then wrapEngines s else decideAndCarry s)

/-- A store step (R143), with the pulse loss that comes as the eighth one ends (R5). -/
def storeStep (s : Station) : Station :=
  let s := wholeStep s
  whenDue (pulseLossDue s) pulseLoss s

/-- What the controller decides at the step in progress, after what falls due first (R143). -/
def decidedNow (s : Station) : Option StoreCmd :=
  if s.store.issued.isSome then none else (decideStep (wrapEngines (prepareStep s))).cmd

/-- A store command taken by itself: it comes about where it is the one the controller decides at the step in progress,
and STORE_STEP then closes the step without another (R137, R143, log entry 11). -/
def issueNow (cmd : StoreCmd) (s : Station) : Station :=
  if decidedNow s = some cmd then decideAndCarry (prepareStep s) else s

/-- The PUT or PUT-CLOSE decided at the step in progress, for whichever of the recorder and the loader asks. -/
def issuePut (close : Bool) (s : Station) : Station :=
  match decidedNow s with
  | some (.put who cl) => if cl = close then issueNow (.put who close) s else s
  | _ => s

/-- The SETUP decided at the step in progress, with the latency handed over. -/
def issueSetup (s : Station) : Station :=
  match decidedNow s with
  | some (.setup latency) => issueNow (.setup latency) s
  | _ => s

/-! ### The commands -/

/-- PIN_RESET (R42, R171). -/
def execPinReset (pins : BitVec 4) (s : State) : Host.Outcome State Fault Refusal := s.run (pinReset pins)

/-- PULSE_LOSS (R5). -/
def execPulseLoss (s : State) : Host.Outcome State Fault Refusal := s.run fun s => whenDue (pulseLossDue s) pulseLoss s

/-- LOCAL_FRAME (R6). -/
def execLocalFrame (s : State) : Host.Outcome State Fault Refusal :=
  s.run fun s => whenDue (localFrameDue s) startLocalFrame s

/-- STORE_STEP (R143). -/
def execStoreStep (s : State) : Host.Outcome State Fault Refusal := s.run storeStep

/-- SHELF_RESET (R16). -/
def execShelfReset (s : State) : Host.Outcome State Fault Refusal := s.run fun s => whenDue (breakDue s) shelfReset s

/-- OPEN (R137). -/
def execOpen (b row : Nat) (s : State) : Host.Outcome State Fault Refusal :=
  if row < 8192 then s.runBank b fun b => issueNow (.openRow b row) else .fault .noSuchRow

/-- FETCH (R137). -/
def execFetch (e : Nat) (s : State) : Host.Outcome State Fault Refusal := s.runEngine e fun e => issueNow (.fetch e false)

/-- FETCH_CLOSE (R137). -/
def execFetchClose (e : Nat) (s : State) : Host.Outcome State Fault Refusal :=
  s.runEngine e fun e => issueNow (.fetch e true)

/-- PUT (R137). -/
def execPut (s : State) : Host.Outcome State Fault Refusal := s.run (issuePut false)

/-- PUT_CLOSE (R137). -/
def execPutClose (s : State) : Host.Outcome State Fault Refusal := s.run (issuePut true)

/-- CLOSE (R137). -/
def execClose (b : Nat) (s : State) : Host.Outcome State Fault Refusal := s.runBank b fun b => issueNow (.close b)

/-- RENEW (R145). -/
def execRenew (s : State) : Host.Outcome State Fault Refusal := s.run (issueNow .renew)

/-- SETUP (R148). -/
def execSetup (s : State) : Host.Outcome State Fault Refusal := s.run issueSetup

/-- SELF_RENEW_ENTRY (R149). -/
def execSelfRenewEntry (s : State) : Host.Outcome State Fault Refusal := s.run (issueNow .selfRenewEntry)

/-- SELF_RENEW_EXIT (R150). -/
def execSelfRenewExit (s : State) : Host.Outcome State Fault Refusal := s.run (issueNow .selfRenewExit)

/-- PENDING_CLOSE (R137). -/
def execPendingClose (b : Nat) (s : State) : Host.Outcome State Fault Refusal :=
  s.runBank b fun b s => whenDue (closeDue b s) (carryClose b) s

/-- STORE_QUIET_END (R138). -/
def execStoreQuietEnd (s : State) : Host.Outcome State Fault Refusal := s.run fun s => whenDue (quietEndDue s) endQuiet s

/-- FETCH_DATA_ARRIVAL (R141). -/
def execFetchDataArrival (s : State) : Host.Outcome State Fault Refusal :=
  s.run fun s => whenDue (arrivalDue s) arrivals s

/-- RENEW_DEBT_RISE (R144). -/
def execRenewDebtRise (s : State) : Host.Outcome State Fault Refusal := s.run fun s => whenDue (riseDue s) riseDebt s

end Sys2Proof.Machine
end

