-- ==== Sys2Proof/Machine/Channels.lean ====
section
/-! DEFINITION. The channel table's own work (chapter 2): the view, H, claims, back-off, surplus release, owner
positions and sample positions with what they find. -/
namespace Sys2Proof.Machine

/-! ### The view and the free count (R17, R18) -/

/-- The number of view entries that hold code 15 (R18). -/
def freeCount (t : ChannelTable) : Nat := ((numbers 48).filter fun c => t.view.get c == some freeCode).length

/-- No frame has been read since the view was last made unknown (R18). -/
def viewUnknown (t : ChannelTable) : Bool := (numbers 48).all fun c => (t.view.get c).isNone

/-- The table's boundary work (R18, R29): H fixed, and every contention count set to 0. -/
def ChannelTable.atBoundary (t : ChannelTable) : ChannelTable :=
  { t with free := if viewUnknown t then 48 else freeCount t, contention := Tbl.fill 48 0 }

/-! ### Claims (R21 to R23) -/

/-- The `i`-th channel of the station's preference order (R21). -/
def preferred (number : BitVec 4) (i : Nat) : Channel := ⟨(3 * number.toNat + i) % 48, Nat.mod_lt _ (by decide)⟩

/-- The preference order (R21). -/
def preferenceOrder (number : BitVec 4) : List Channel := (List.range 48).map (preferred number)

/-- The channel is in the back-off list (R23). -/
def backedOff (t : ChannelTable) (c : Channel) : Bool := t.backOff.any fun b => b.channel == c

/-- The first channel that may be claimed: read free, and not backed off (R21). -/
def claimChoice (s : Station) : Option Channel :=
  (preferenceOrder s.number).find? fun c => s.table.view.get c == some freeCode && !backedOff s.table c

/-- The claim of a frame (R21). -/
def claim (s : Station) : Station :=
  if s.orders.state = .serving ∧ s.table.stopped = false ∧ s.table.pool.length < s.table.target then
    { s with table := { s.table with claimed := claimChoice s } }
  else s

/-- A back-off entry whose frames left stand at 0 (R23). -/
def backOffDue (c : Channel) (s : Station) : Bool := s.table.backOff.any fun b => b.channel == c && b.left == 0

/-- The entry of a channel removed from the back-off list (R23). -/
def removeBackOff (c : Channel) (s : Station) : Station :=
  { s with table := { s.table with backOff := s.table.backOff.filter fun b => b.channel != c } }

/-- The back-off list aged at a frame's start (R23). -/
def ageBackOff (s : Station) : Station :=
  let aged := s.table.backOff.map fun b => { b with left := b.left - 1 }
  { s with table := { s.table with backOff := aged.filter fun b => b.left != 0 } }

/-! ### Surplus release (R24) -/

/-- The pool holds more channels than the effective target (R24). -/
def surplus (s : Station) : Bool := decide (s.table.target < s.table.pool.length)

/-- The newest pool channel released: it goes to NONE and its place is given up (R24, R26). -/
def releaseNewest (s : Station) : Station :=
  match s.table.pool.getLast? with
  | none => s
  | some c => { s with table := { s.table.hold c .none with pool := s.table.pool.dropLast } }

/-- The newest pool channel released, where the pool is above its target (R24). -/
def releaseSurplus (s : Station) : Station := whenDue (surplus s) releaseNewest s

/-- A frame's surplus release and standing start, in the order the free value chooses where both act (R104, log
entry 4). -/
def releaseAndStart (s : Station) : Station :=
  if surplus s && (firstUncovered s).isSome && s.orders.state == .serving then
    if Config.releaseFirst s.draw then standingStart (releaseSurplus s) else releaseSurplus (standingStart s)
  else standingStart (releaseSurplus s)

/-! ### Owner positions (R8, R19, R22, R28, R30) -/

/-- The states in which a duplicate identity is looked for (R30). -/
def looksForTwin (s : Station) : Bool := s.orders.state.answers && !s.table.stopped

/-- A duplicate identity is found on channel `c` (R30, R51). -/
def duplicateIdentity (c : Channel) (s : Station) : Station :=
  let s := dropAll s
  let s := { s with
    table := { s.table with stopped := true }
    orders := { s.orders with countdown := some 16, list := [] } }
  post { kind := .fault, channel := some c, detail := 1 } s

/-- Whether the station drives its code in the owner position of `c` (R19). -/
def drivesOwner (s : Station) (c : Channel) : Bool :=
  ((s.table.holding.get c).isHeld || s.table.claimed == some c) && !s.table.stopped

/-- The table lets at most 4 channels be POOL (R34). -/
def poolRoom (s : Station) : Bool := decide (s.table.pool.length < 4)

/-- A claim settled by the code read (R22): won into POOL in the newest place, or lost into the back-off list. Where the
pool holds 4, a channel returned in the frame has filled the place the claim was made for: it is the newest, and, held
beyond the target now, it is released at once, so that the pool stays within 4 (R26, R34, log entry 36). -/
def settleClaim (c : Channel) (won : Bool) (s : Station) : Station :=
  if won then
    let s := whenDue (!poolRoom s) releaseNewest s
    { s with table := { s.table.hold c .pool with pool := s.table.pool ++ [c] } }
  else { s with table := { s.table with backOff := s.table.backOff ++ [{ channel := c, left := 16 }] } }

/-- The port and the view after the owner position of `c` (R8, R9, R17). -/
def readOwner (c : Channel) (driven : Option OwnerCode) (read : OwnerCode) (s : Station) : Station :=
  { s with
    port := { s.port with ownerNext := c.val + 1, ownerOut := s.port.ownerOut.put c driven }
    table := { s.table with view := s.table.view.put c (some read) } }

/-- The owner position of channel `c`, which the codes `others` are driven in by other stations (R8, R9, R17, R19,
R22, R28, R30). -/
def ownerPosition (c : Channel) (others : List OwnerCode) (s : Station) : Station :=
  if drivesOwner s c then
    let read := laneWord (s.number :: others)
    let t := readOwner c (some s.number) read s
    if s.table.claimed = some c then settleClaim c (read == s.number) t
    else if read = s.number then t
    else loseChannel c read.toNat t
  else
    let read := laneWord others
    let t := readOwner c none read s
    if read = s.number ∧ looksForTwin s = true then duplicateIdentity c t else t

/-- An owner position comes round: the pulse is present, and positions pass in rising order, once a frame (section
1.1, log entry 12). -/
def ownerOpen (c : Channel) (s : Station) : Bool := pulsePresent s && decide (s.port.ownerNext ≤ c.val)

/-! ### Sample positions (R10 to R12, R29) -/

/-- The owner position of `c` in this frame has read back the station's own code (R10). -/
def ownerHeld (s : Station) (c : Channel) : Bool :=
  decide (c.val < s.port.ownerNext) && (s.port.ownerOut.get c).isSome
    && s.table.view.get c == s.port.ownerOut.get c

/-- The channel is one whose sample position the station drives: TONE, or CYCLE while PLAYING (R10). -/
def Holding.sounds (h : Holding) : Bool :=
  match h with
  | .tone _ => true
  | .cycle r => r.substate == .playing
  | _ => false

/-- The code the port drives in the sample position of `c`, if any (R10). -/
def drivenCode (s : Station) (c : Channel) : Option Code :=
  if (s.table.holding.get c).sounds && ownerHeld s c && !s.table.stopped then
    some ((s.formed.get c).getD silence)
  else none

/-- The fourth contention event of a superframe has come on `c` (R29). -/
def contentionDue (c : Channel) (s : Station) : Bool :=
  decide (4 ≤ s.table.contention.get c) && ((s.table.holding.get c).isTone || (s.table.holding.get c).isCycle)

/-- A channel surrendered under contention (R29). -/
def surrender (c : Channel) (s : Station) : Station := loseChannel c 15 s

/-- A contention event on `c`, and the surrender at the fourth (R11, R29). -/
def contentionEvent (c : Channel) (s : Station) : Station :=
  let s := { s with table := { s.table with contention := s.table.contention.put c (s.table.contention.get c + 1) } }
  whenDue (contentionDue c s) (surrender c) s

/-- The recorder's input channel is `c` (R12). -/
def hears (s : Station) (c : Channel) : Bool :=
  match s.recorder with
  | none => false
  | some r => r.input == some c

/-- The sample position of channel `c`, on which all other drivers leave the code `others` (R10 to R12). -/
def samplePosition (c : Channel) (others : Code) (s : Station) : Station :=
  let driven := drivenCode s c
  let read := match driven with
    | none => others
    | some k => k &&& others
  let t := { s with port := { s.port with sampleNext := c.val + 1, sampleOut := s.port.sampleOut.put c driven } }
  let t := whenDue (driven.isSome && driven != some read) (contentionEvent c) t
  whenDue (hears s c) (recorderSample read) t

/-- A sample position comes round: after the owner position of the channel, and in rising order, once a frame (section
1.1). -/
def sampleOpen (c : Channel) (s : Station) : Bool :=
  pulsePresent s && decide (s.port.sampleNext ≤ c.val) && decide (c.val < s.port.ownerNext)

/-! ### The commands -/

/-- OWNER_POSITION (R8). -/
def execOwnerPosition (c : Nat) (others : List OwnerCode) (s : State) : Host.Outcome State Fault Refusal :=
  s.runChannel c fun c s => whenDue (ownerOpen c s) (ownerPosition c others) s

/-- SAMPLE_POSITION (R10). -/
def execSamplePosition (c : Nat) (others : Code) (s : State) : Host.Outcome State Fault Refusal :=
  s.runChannel c fun c s => whenDue (sampleOpen c s) (samplePosition c others) s

/-- CONTENTION_SURRENDER (R29). -/
def execContentionSurrender (c : Nat) (s : State) : Host.Outcome State Fault Refusal :=
  s.runChannel c fun c s => whenDue (contentionDue c s) (surrender c) s

/-- BACK_OFF_EXPIRY (R23). -/
def execBackOffExpiry (c : Nat) (s : State) : Host.Outcome State Fault Refusal :=
  s.runChannel c fun c s => whenDue (backOffDue c s) (removeBackOff c) s

end Sys2Proof.Machine
end

