-- ==== Sys2Proof/Machine/Highway.lean ====
section
/-! DEFINITION. The frame pulse and the order position (chapter 1): what comes about at a boundary and at the start of
a frame, in its order. -/
namespace Sys2Proof.Machine

/-! ### The boundary (R2, R3) -/

/-- The pulse resumes (R6): ISOLATED becomes LISTENING, the listening count from 0 (R43, R49). -/
def resume (s : Station) : Station := { s with orders := s.orders.listen }

/-- A pulse accepted while the pulse is absent ends ISOLATED (R6, R49). -/
def resumes (s : Station) : Bool := !pulsePresent s && s.orders.state == .isolated

/-- The boundary work of every block (R2, R18, R29, R43, R74, R100, R154, R163). The channels' work comes before the
monitor's, which counts the engines it frees (R153), and reads the grade of the superframe just ended (R155). The
boundary that a resumption brings is not one of the 16 that come after it (R49, log entry 15). -/
def boundaryWork (resumed : Bool) (s : Station) : Work :=
  let w := Work.begin { s with table := s.table.atBoundary }
  let w := eachChannel cycleBoundary (eachChannel toneBoundary w)
  let w := monitorBoundary w
  let w := { w with station := startSearch w.station }
  if resumed then w else listeningBoundary w

/-! ### The start of a frame -/

/-- The frame number the port's count gives the new frame (R2). -/
def countNext (p : Port) : Nat := (p.frameCount + 1) % 16

/-- The port as a frame begins with the number given (R1 to R3). -/
def Port.begin (p : Port) (number : Nat) : Port := { p.newFrame with frameCount := number, timer := some 0, localSteps := 0 }

/-- The order unit as a frame begins: the recent-order memory and the order list a frame older (R15, R36). -/
def OrderUnit.newFrame (o : OrderUnit) : OrderUnit :=
  { o with
    list := (o.list.map fun w => { w with age := w.age + 1 }).filter fun w => decide (w.age ≤ 2)
    seen0 := .nothing, seen1 := o.seen0, seen2 := o.seen1, driving := none, drivenStands := false, noticeUsed := false }

/-- The frame itself begins: its number, its positions yet to come, the claim mark and the offer in hand gone (R2,
R22, R55). -/
def openFrame (number : Nat) (s : Station) : Station :=
  { s with
    port := s.port.begin number, orders := s.orders.newFrame, offer := none
    table := { s.table with claimed := none }, formed := Tbl.fill 48 none }

/-- The effective pool target formed for the frame (R20). -/
def formTarget (s : Station) : Station :=
  { s with table := { s.table with
      target := effectiveTarget s.orders.state s.monitor.grade s.tables.poolTarget } }

/-- The work of a frame's start after the channels of a boundary are back: tones, back-off, release and standing start,
claim and work check, in the order R21, R23 and R45 give. -/
def frameWork (s : Station) : Station :=
  drainCheck (claim (releaseAndStart (ageBackOff (eachChannel toneFrame s))))

/-- The play positions of a frame, with the LATE notices they give (R78, R89, R121). -/
def playAll (s : Station) : Station :=
  let w := eachChannel playFrame (Work.begin s)
  postAll (shuffle Config.postOrder (s.draw + 1) w.posts) w.station

/-- A pulse arrives within two store steps of the last accepted one (R1). -/
def glitch (p : Port) : Bool :=
  match p.timer with
  | none => false
  | some n => decide (n < 2)

/-- The boundary before the new frame, where there is one. -/
def boundaryBefore (isBoundary resumed : Bool) (s : Station) : Work :=
  if isBoundary then boundaryWork resumed s else Work.begin s

/-- An accepted frame pulse (R1 to R3, R6): the resumption where it ends ISOLATED, so that the monitor's work finds the
station in LISTENING at grade 0 (R157, R158), the boundary before the frame, the notices posted there, the frame, the
halt countdown, the store's frame, the channels returned at the boundary, then the frame's own work. -/
def acceptPulse (long : Bool) (s : Station) : Station :=
  let number := countNext s.port
  let isBoundary := long || number == 0
  let w := boundaryBefore isBoundary (resumes s) (whenDue (resumes s) resume s)
  let t := postAll (shuffle Config.postOrder s.draw w.posts) w.station
  let t := openFrame (if isBoundary then 0 else number) t
  let t := formTarget (storeFrame (stepCountdown t))
  let t := returnAll t.table.target (shuffle Config.returnOrder s.draw w.returned) t
  let t := playAll (frameWork t)
  { t with draw := s.draw + 2 }

/-- A pulse comes in the middle of a store step where the sender says so, and where the step in progress has carried
its command (R4, log entry 31). -/
def midStep (inStep : Bool) (s : Station) : Bool := inStep || s.store.issued.isSome

/-- The station as an accepted pulse finds it: a store step in progress counts whole, as the last one of the frame in
progress, and no pulse loss comes of it (R4). -/
def beforePulse (inStep : Bool) (s : Station) : Station := whenDue (midStep inStep s) wholeStep s

/-- A frame pulse (R1, R4): a glitch is disregarded. -/
def framePulse (long inStep : Bool) (s : Station) : Station :=
  if glitch s.port then s else acceptPulse long (beforePulse inStep s)

/-! ### The order position (R13, R16, R35) -/

/-- An order taken into the list at its newest end, where the station takes orders (R35). -/
def OrderUnit.receive (o : OrderUnit) (word : Word) : OrderUnit :=
  let o := { o with seen0 := seenOf word }
  match orderOf word with
  | none => o
  | some order =>
    if o.state.answers && o.countdown.isNone then { o with list := o.list ++ [{ order := order, age := 0 }] } else o

/-- The break count after a word (R16). -/
def countBreak (word : Word) (s : Station) : Station :=
  { s with port := { s.port with breakCount := if word = 0 then s.port.breakCount + 1 else 0 } }

/-- The order position with the word read (R13, R16, R35): a break is signalled before the order unit takes the
word. -/
def orderPosition (word : Word) (s : Station) : Station :=
  let s := countBreak word s
  let s := whenDue (breakDue s) shelfReset s
  { s with port := { s.port with orderSeen := true }, orders := s.orders.receive word }

/-- The order position comes round once a frame, while the pulse is present. -/
def orderOpen (s : Station) : Bool := pulsePresent s && !s.port.orderSeen

/-! ### The commands -/

/-- FRAME_PULSE (R1). -/
def execFramePulse (pulse : Pulse) (s : State) : Host.Outcome State Fault Refusal :=
  s.run (framePulse pulse.long pulse.inStep)

/-- ORDER_POSITION (R13). -/
def execOrderPosition (word : Word) (s : State) : Host.Outcome State Fault Refusal :=
  s.run fun s => whenDue (orderOpen s) (orderPosition word) s

end Sys2Proof.Machine
end

