-- ==== Sys2Proof/Machine/Join.lean ====
section
/-! DEFINITION. The join unit (chapter 4): weighing a JOIN, the bid, and binding the winner. -/
namespace Sys2Proof.Machine

/-! ### The order due at a reply position (R15, R36) -/

/-- An order of the list is due at the reply position two frames after the frame it was received in (R36). -/
def Waiting.due (w : Waiting) : Bool := w.age == 2

/-- The reply position comes after the order position of its frame, while the pulse is present (section 1.1). -/
def replyOpen (s : Station) : Bool := pulsePresent s && s.port.orderSeen

/-- The station acts on orders: in the four states that take them, and not while the halt countdown runs (R35, R51). -/
def actsOnOrders (s : Station) : Bool := s.orders.state.answers && s.orders.countdown.isNone

/-- The order whose reply position this is, if any (R36). -/
def dueOrder (s : Station) : Option Order :=
  if replyOpen s && actsOnOrders s then (s.orders.list.find? Waiting.due).map Waiting.order else none

/-- The due order removed from the list (R36). -/
def takeOrder (s : Station) : Station :=
  { s with orders := { s.orders with list := s.orders.list.eraseP Waiting.due } }

/-- A word handed to the port to drive in the reply position (R14, R38). -/
def driveReply (word : Word) (s : Station) : Station := { s with port := { s.port with replyOut := some word } }

/-! ### Options (R56 to R65) -/

/-- What a JOIN asks of the weighing (section 4.2). -/
structure Ask where
  mode : Mode
  tag : BitVec 8
  degraded : Bool
  deriving DecidableEq, Repr

/-- The bid of an option (R65). -/
def bidOf (isNew : Bool) (grade delay : Nat) : Nat := (if isNew then 128 else 0) + 32 * grade + min 31 (delay / 32)

/-- An option for a signal on a channel (R55, R65). -/
def makeOffer (a : Ask) (grade signal : Nat) (c : Channel) (wayIn : WayIn) (delay : Nat) : Offer :=
  let o : Offer :=
    { degraded := a.degraded, signal := signal, channel := c, wayIn := wayIn, delay := delay, bid := 0, tag := a.tag,
      mode := a.mode }
  { o with bid := bidOf o.isNew grade delay }

/-- The effective join window (R60). -/
def effectiveWindow (grade window : Nat) : Nat := if grade = 3 then min 4095 (4 * window) else window

/-- How a caller comes onto a CYCLE channel, by mode and substate (R58). -/
def cycleWayIn (mode : Mode) (substate : Substate) : WayIn :=
  match mode, substate with
  | .any, .playing => .listener
  | .any, .gap => .listener
  | .any, .priming => .pending
  | .start, _ => .pending

/-- A wait for a CYCLE channel may be promised (R59). -/
def waitAllowed (s : Station) (r : CycleRecord) : Bool :=
  match findEntry s r.announcement with
  | none => false
  | some e =>
    decide (r.t ≤ effectiveWindow s.monitor.grade e.window) && decide (r.t ≤ 4095) && decide (r.waiting.length < 8)

/-- The EXISTING option of a TONE channel (R57, R61). -/
def toneCandidate (s : Station) (a : Ask) (plan : Nat) (c : Channel) (r : ToneRecord) : Option Offer :=
  if r.plan = plan ∧ r.listeners < 255 then some (makeOffer a s.monitor.grade plan c .listener 0) else none

/-- The EXISTING option of a CYCLE channel (R58, R59, R61). -/
def cycleCandidate (s : Station) (a : Ask) (id : Nat) (c : Channel) (r : CycleRecord) : Option Offer :=
  if r.announcement = id ∧ r.listeners + r.waiting.length < 255 then
    match cycleWayIn a.mode r.substate with
    | .pending => if waitAllowed s r then some (makeOffer a s.monitor.grade id c .pending r.t) else none
    | w => some (makeOffer a s.monitor.grade id c w 0)
  else none

/-- The EXISTING option a channel gives for a signal: signals 0 to 63 are plans, the others announcements (section
4.2). -/
def candidate (s : Station) (a : Ask) (signal : Nat) (c : Channel) : Option Offer :=
  match s.table.holding.get c with
  | .tone r => if signal < 64 then toneCandidate s a signal c r else none
  | .cycle r => if 64 ≤ signal then cycleCandidate s a signal c r else none
  | _ => none

/-- The first offer of a list that no other offer comes before. -/
def bestOf (before : Offer → Offer → Bool) (l : List Offer) : Option Offer :=
  l.foldl (fun best o =>
    match best with
    | none => some o
    | some b => if before o b then some o else some b) none

/-- Among EXISTING options: the smaller delay first, then the lower channel (R61). -/
def Offer.sooner (o p : Offer) : Bool :=
  decide (o.delay < p.delay) || (decide (o.delay = p.delay) && decide (o.channel < p.channel))

/-- Among options of equal result: the lower bid first, then the lower channel (R65). -/
def Offer.better (o p : Offer) : Bool :=
  decide (o.bid < p.bid) || (decide (o.bid = p.bid) && decide (o.channel < p.channel))

/-- The best EXISTING option for a signal (R61). -/
def existingOption (s : Station) (a : Ask) (signal : Nat) : Option Offer :=
  bestOf Offer.sooner ((numbers 48).filterMap (candidate s a signal))

/-- The NEW tone option for a plan (R62). -/
def newToneOption (s : Station) (a : Ask) (plan : Nat) : Option Offer :=
  match s.table.pool with
  | [] => none
  | c :: _ =>
    if (findPlan s plan).isSome ∧ (freeGenerator s).isSome
        ∧ (s.monitor.grade < 3 ∨ s.tables.congestionPlan = some plan) then
      some (makeOffer a s.monitor.grade plan c .newTone 0)
    else none

/-- The NEW announcement option (R63). -/
def newCycleOption (s : Station) (a : Ask) (id : Nat) : Option Offer :=
  match s.table.pool with
  | [] => none
  | c :: _ =>
    if (findEntry s id).isSome ∧ (freeEngine s).isSome ∧ s.monitor.grade < 3 then
      some (makeOffer a s.monitor.grade id c .newCycle 2)
    else none

/-- The NEW option for a signal (R62, R63). -/
def newOption (s : Station) (a : Ask) (signal : Nat) : Option Offer :=
  if signal < 64 then newToneOption s a signal else newCycleOption s a signal

/-- The best option for a signal weighed in its own right (R65). -/
def weighSignal (s : Station) (a : Ask) (signal : Nat) : Option Offer :=
  bestOf Offer.better ((existingOption s a signal).toList ++ (newOption s a signal).toList)

/-- The short form of an announcement of the directory (R64). -/
def shortFormOf (s : Station) (signal : Nat) : Option Nat :=
  if 64 ≤ signal then (findEntry s signal).bind Entry.shortForm else none

/-- Step 1 of the degraded options: the short form (R64). -/
def weighShortForm (s : Station) (a : Ask) (signal : Nat) : Option Offer :=
  (shortFormOf s signal).bind (weighSignal s a)

/-- Step 2 of the degraded options: the congestion plan (R64). -/
def weighCongestion (s : Station) (a : Ask) : Option Offer := s.tables.congestionPlan.bind (weighSignal s a)

/-- Substitutes may be weighed: the grade is 2 or 3 and the flag, clamped at class 0, is clear (R56, R64). -/
def substituteAllowed (grade cls : Nat) (noSubstitute : Bool) : Bool :=
  decide (2 ≤ grade) && !(noSubstitute && cls != 0)

/-- The degraded options (R64). -/
def weighDegraded (s : Station) (mode : Mode) (tag : BitVec 8) (signal : Nat) : Option Offer :=
  let a : Ask := { mode := mode, tag := tag, degraded := true }
  match weighShortForm s a signal with
  | some o => some o
  | none => weighCongestion s a

/-- The weighing of a JOIN in SERVING (R56). -/
def weighJoin (s : Station) (cls : Nat) (tag : BitVec 8) (signal : Nat) (mode : Mode) (noSubstitute : Bool) :
    Option Offer :=
  match weighSignal s { mode := mode, tag := tag, degraded := false } signal with
  | some o => some o
  | none =>
    if substituteAllowed s.monitor.grade cls noSubstitute then weighDegraded s mode tag signal else none

/-! ### The reply position of a JOIN (R39, R55, R66) -/

/-- The bid word of an offer (R66). -/
def Offer.word (o : Offer) (station : BitVec 4) : Word := bidWord o.degraded o.bid station o.channel.val o.delay

/-- An offer taken in hand and its word driven; with none, nothing is driven (R55, R66). -/
def makeBid (offer : Option Offer) (s : Station) : Station :=
  match offer with
  | none => s
  | some o => driveReply (o.word s.number) { s with offer := some o }

/-- A due JOIN acted on by the station state (R39). -/
def joinReply (order : Order) (signal : Nat) (mode : Mode) (noSubstitute : Bool) (s : Station) : Station :=
  if s.orders.state = .serving then makeBid (weighJoin s order.cls order.tag signal mode noSubstitute) s else s

/-- The reply position of a JOIN (R36, R39). -/
def joinPosition (s : Station) : Station :=
  match dueOrder s with
  | some order =>
    match order.body with
    | .join signal mode noSubstitute => joinReply order signal mode noSubstitute (takeOrder s)
    | _ => s
  | none => s

/-! ### The outcome (R67 to R70) -/

/-- The outcome of the reply position for the offer in hand: won where the word read back is the one driven (R14);
none where no offer is in hand or nothing was driven. -/
def offerOutcome (others : List Word) (s : Station) : Option (Offer × Bool) :=
  match s.offer, s.port.replyOut with
  | some o, some word => some (o, wins word others)
  | _, _ => none

/-- The offer in hand is empty again (R55). -/
def dropOffer (s : Station) : Station := { s with offer := none }

/-- A tone channel with a caller joined (R67). -/
def ToneRecord.join (r : ToneRecord) (quietPeriod : Nat) : ToneRecord :=
  { r with listeners := r.listeners + 1, quiet := quietPeriod }

/-- A cycle with a caller joined, as a listener or on the pending join list (R67). -/
def CycleRecord.join (r : CycleRecord) (o : Offer) (quietPeriod : Nat) : CycleRecord :=
  match o.wayIn with
  | .pending => { r with waiting := r.waiting ++ [{ tag := o.tag, mode := o.mode }], quiet := quietPeriod }
  | _ => { r with listeners := r.listeners + 1, quiet := quietPeriod }

/-- A won EXISTING offer bound to its channel; where the channel is gone it binds nothing (R67, R70). -/
def bindToChannel (o : Offer) (s : Station) : Station :=
  match s.table.holding.get o.channel with
  | .tone r => setHolding o.channel (.tone (r.join s.tables.quietPeriod)) s
  | .cycle r => setHolding o.channel (.cycle (r.join o s.tables.quietPeriod)) s
  | _ => s

/-- The record of a cycle channel newly bound (R68, R72). -/
def newCycle (o : Offer) (quietPeriod : Nat) (e : Fin 16) : CycleRecord :=
  { announcement := o.signal, substate := .priming, t := 2, number := 255
    listeners := if o.mode = .any then 1 else 0
    waiting := if o.mode = .any then [] else [{ tag := o.tag, mode := .start }]
    quiet := quietPeriod, late := false, position := 0, engine := e }

/-- A pool channel taken into CYCLE with engine `e` bound to the entry's current area (R68, R119). -/
def startCycleChannel (o : Offer) (entry : Entry) (e : Fin 16) (s : Station) : Station :=
  bindEngine e o.channel entry.area (takeInto o.channel (.cycle (newCycle o s.tables.quietPeriod e)) s)

/-- The table lets at most 16 channels be CYCLE (R34). -/
def cycleRoom (s : Station) : Bool := decide (countHolding s Holding.isCycle < 16)

/-- The code the view holds for a channel, 15 where it is unknown. -/
def viewCode (s : Station) (c : Channel) : Nat := ((s.table.view.get c).getD freeCode).toNat

/-- A take that comes after the loss of its channel: refused, with LOST posted, unless a duplicate identity has
stopped the station (R27, R30, R70). -/
def refuseTake (c : Channel) (s : Station) : Station :=
  if s.table.stopped then s else post { kind := .lost, channel := some c, detail := viewCode s c } s

/-- A NEW tone offer bound (R68). -/
def bindNewTone (o : Offer) (s : Station) : Station :=
  match freeGenerator s with
  | some g => if toneRoom s then startTone o.channel o.signal false 1 g s else s
  | none => s

/-- A NEW announcement offer bound (R68). -/
def bindNewCycle (o : Offer) (s : Station) : Station :=
  match freeEngine s, findEntry s o.signal with
  | some e, some entry => if cycleRoom s then startCycleChannel o entry e s else s
  | _, _ => s

/-- A won NEW offer: its channel is taken and bound, or the take is refused (R27, R68, R70). -/
def bindNewOffer (o : Offer) (s : Station) : Station :=
  if s.table.holding.get o.channel = .pool then
    match o.wayIn with
    | .newTone => bindNewTone o s
    | _ => bindNewCycle o s
  else refuseTake o.channel s

/-- The outcome "won" for an EXISTING offer in hand (R67). -/
def bindExisting (others : List Word) (s : Station) : Station :=
  match offerOutcome others s with
  | some (o, true) => if o.isNew then s else bindToChannel o (dropOffer s)
  | _ => s

/-- The outcome "won" for a NEW offer in hand (R68). -/
def bindNew (others : List Word) (s : Station) : Station :=
  match offerOutcome others s with
  | some (o, true) => if o.isNew then bindNewOffer o (dropOffer s) else s
  | _ => s

/-- The outcome "lost" for an offer in hand (R69). -/
def loseOffer (others : List Word) (s : Station) : Station :=
  match offerOutcome others s with
  | some (_, false) => dropOffer s
  | _ => s

/-! ### The commands -/

/-- JOIN (R56). -/
def execJoin (s : State) : Host.Outcome State Fault Refusal := s.run joinPosition

/-- BIND_EXISTING (R67). -/
def execBindExisting (others : List Word) (s : State) : Host.Outcome State Fault Refusal := s.run (bindExisting others)

/-- BIND_NEW (R68). -/
def execBindNew (others : List Word) (s : State) : Host.Outcome State Fault Refusal := s.run (bindNew others)

/-- OFFER_LOST (R69). -/
def execOfferLost (others : List Word) (s : State) : Host.Outcome State Fault Refusal := s.run (loseOffer others)

end Sys2Proof.Machine
end

