-- ==== Sys2Proof/Machine/Orders.lean ====
section
/-! DEFINITION. The order unit at the reply position (chapter 3): LEAVE, PROBE, RECORD, FINISH, SERVICE and the notice
positions. -/
namespace Sys2Proof.Machine

/-! ### Addressed orders (R37, R38) -/

/-- The refusal form handed to the port (R38). -/
def refuse (r : Reason) (s : Station) : Station := driveReply (refusalWord r s.number) s

/-- An addressed order weighed (R37): one for another station is discarded; a refused one is answered with its reason
and changes nothing; an accepted one acts. -/
def answer (station : Nat) (refusal : Option Reason) (accept : Station → Station) (s : Station) : Station :=
  if station = s.number.toNat then
    match refusal with
    | some r => refuse r s
    | none => accept s
  else s

/-! ### LEAVE (R40) -/

/-- A LEAVE handed to the unit that has the channel: for a TONE or CYCLE channel alone (R40). -/
def leaveChannel (tag : BitVec 8) (c : Channel) (s : Station) : Station :=
  match s.table.holding.get c with
  | .tone _ => toneLeave c s
  | .cycle _ => cycleLeave c tag s
  | _ => s

/-- A LEAVE on the channel number its body names; 48 to 63 match nothing (R40). -/
def applyLeave (channel : Nat) (tag : BitVec 8) (s : Station) : Station :=
  if h : channel < 48 then leaveChannel tag ⟨channel, h⟩ s else s

/-- The reply position of a LEAVE (R36, R40). -/
def leavePosition (s : Station) : Station :=
  match dueOrder s with
  | some order =>
    match order.body with
    | .leave channel => applyLeave channel order.tag (takeOrder s)
    | _ => s
  | none => s

/-! ### PROBE (R41) -/

/-- The PROBE reply of the station's condition (R41). -/
def conditionWord (s : Station) : Word :=
  probeWord s.number s.orders.state s.monitor.grade s.table.pool.length (freeEngines s) (s.store.debt + 2).toNat
    s.orders.missed (recorderActive s)

/-- The PROBE answered, the missed set cleared as the word is handed over (R41). -/
def probeReply (s : Station) : Station :=
  let t := driveReply (conditionWord s) s
  { t with orders := { t.orders with missed := Tbl.fill 7 false } }

/-- The reply position of a PROBE (R36, R37, R41). -/
def probePosition (s : Station) : Station :=
  match dueOrder s with
  | some order =>
    match order.body with
    | .probe station => answer station none probeReply (takeOrder s)
    | _ => s
  | none => s

/-! ### RECORD (R37, R162) -/

/-- An engine has the area of this base latched (R37, R129). -/
def latchedAnywhere (s : Station) (base : Nat) : Bool :=
  (numbers 16).any fun e => match engineAt s e with
    | some eng => eng.area.base == base
    | none => false

/-- The directory entry of an id, where it is recordable (R37, R160). -/
def recordable (s : Station) (id : Nat) : Option Entry := (findEntry s id).filter fun e => e.pair.isSome

/-- The table lets at most one channel be RECORD (R34). -/
def recordRoom (s : Station) : Bool := decide (countHolding s (fun h => h == .record) < 1)

/-- The checks of a RECORD, in their order (R37). Where the table has no room for it, the RECORD is refused as if the
pool were empty (R34). -/
def recordRefusal (s : Station) (cls id : Nat) : Option Reason :=
  if cls < 2 then some .cls
  else if s.orders.state ≠ .serving ∨ s.recorder.isSome then some .state
  else
    match recordable s id with
    | none => some .unknown
    | some e =>
      if e.guarded ∧ cls < 3 then some .cls
      else if s.table.pool = [] ∨ recordRoom s = false then some .noChannel
      else if latchedAnywhere s (e.alternate.getD 0) then some .busy
      else none

/-- The channel taken into RECORD and the recording begun, or the take refused with the recorder still IDLE (R27,
R162). -/
def beginRecording (id cls : Nat) (c : Channel) (s : Station) : Station :=
  if s.table.holding.get c = .pool then { takeInto c .record s with recorder := some (Recording.fresh id cls c) }
  else refuseTake c s

/-- The owner position of the channel named, where it falls between the weighing and the take (R27). -/
def betweenPosition (between : Option (List OwnerCode)) (c : Channel) (s : Station) : Station :=
  match between with
  | none => s
  | some others => whenDue (ownerOpen c s) (ownerPosition c others) s

/-- An accepted RECORD (R162): the reply names the oldest pool channel, which is then taken. -/
def acceptRecord (id cls : Nat) (between : Option (List OwnerCode)) (s : Station) : Station :=
  match s.table.pool with
  | [] => s
  | c :: _ =>
    let s := driveReply (recordAcceptWord s.number c.val s.tables.areaSize) s
    beginRecording id cls c (betweenPosition between c s)

/-- The reply position of a RECORD (R36, R37, R162). -/
def recordPosition (between : Option (List OwnerCode)) (s : Station) : Station :=
  match dueOrder s with
  | some order =>
    match order.body with
    | .record station id =>
      answer station (recordRefusal s order.cls id) (acceptRecord id order.cls between) (takeOrder s)
    | _ => s
  | none => s

/-! ### FINISH (R37, R167) -/

/-- The states of the recorder in which a FINISH is not refused STATE (R37). -/
def RecordPhase.unsettled (p : RecordPhase) : Bool :=
  match p with
  | .committing => false
  | _ => true

/-- The checks of a FINISH, in their order (R37). -/
def finishRefusal (s : Station) (cls : Nat) (action : FinishAction) : Option Reason :=
  if cls < 2 then some .cls
  else
    match s.recorder with
    | none => some .state
    | some r =>
      if !r.phase.unsettled then some .state
      else if cls < r.cls then some .cls
      else if action = .commit ∧ r.phase = .searching then some .empty
      else none

/-- An accepted FINISH COMMIT (R167): condition and new length in the reply. -/
def acceptCommit (s : Station) : Station :=
  match s.recorder with
  | none => s
  | some r => commitRecording (driveReply (finishAcceptWord s.number r.damaged r.length) s)

/-- An accepted FINISH DISCARD (R167): condition 0, length 0. -/
def acceptDiscard (s : Station) : Station := discardRecording (driveReply (finishAcceptWord s.number false 0) s)

/-- The reply position of a FINISH with the given action (R36, R37, R167). -/
def finishPosition (action : FinishAction) (accept : Station → Station) (s : Station) : Station :=
  match dueOrder s with
  | some order =>
    match order.body with
    | .finish station a =>
      if a = action then answer station (finishRefusal s order.cls a) accept (takeOrder s) else s
    | _ => s
  | none => s

/-! ### SERVICE (R37, R44 to R48) -/

/-- The state an accepted pair of a SERVICE action and a station state leads to; none where the pair is refused (R44,
R46 to R48). -/
def serviceTarget (state : StationState) (action : ServiceAction) : Option StationState :=
  match action, state with
  | .drain, .serving => some .draining
  | .drain, .listening => some .resting
  | .force, .serving => some .resting
  | .force, .draining => some .resting
  | .force, .listening => some .resting
  | .back, .draining => some .serving
  | .back, .resting => some .listening
  | _, _ => none

/-- The checks of a SERVICE, in their order (R37). -/
def serviceRefusal (s : Station) (cls : Nat) (action : ServiceAction) : Option Reason :=
  if cls < 2 then some .cls
  else if action = .force ∧ cls < 3 then some .cls
  else if (serviceTarget s.orders.state action).isNone then some .state
  else none

/-- The station in another state. -/
def enterState (st : StationState) (s : Station) : Station := { s with orders := { s.orders with state := st } }

/-- An accepted DRAIN (R44, R105). -/
def drain (s : Station) : Station :=
  if s.orders.state = .serving then drainAllStanding (enterState .draining s)
  else enterResting { s with orders := { s.orders with listening := 0 } }

/-- An accepted FORCE (R47): every channel dropped, the orders and the back-off list kept. -/
def force (s : Station) : Station :=
  enterResting (dropAll { s with orders := { s.orders with listening := 0 } })

/-- An accepted RETURN (R46): from RESTING the store is brought out of self-renew first. -/
def bringBack (s : Station) : Station :=
  if s.orders.state = .draining then enterState .serving s
  else { s with store := s.store.signalReturn, orders := s.orders.listen }

/-- A SERVICE accepted, its reply giving the new state (R44, R46, R47). -/
def acceptService (action : ServiceAction) (act : Station → Station) (s : Station) : Station :=
  match serviceTarget s.orders.state action with
  | none => s
  | some st => act (driveReply (serviceAcceptWord s.number st) s)

/-- The reply position of a SERVICE with the given action (R36, R37, R44 to R48). -/
def servicePosition (action : ServiceAction) (act : Station → Station) (s : Station) : Station :=
  match dueOrder s with
  | some order =>
    match order.body with
    | .service station a =>
      if a = action then
        answer station (serviceRefusal s order.cls a) (acceptService a act) (takeOrder s)
      else s
    | _ => s
  | none => s

/-! ### Notice positions (R15, R53) -/

/-- A notice position that has not been used: a reply position whose order position held an idle word or a LEAVE
(R15, R53). -/
def noticeOpen (s : Station) : Bool := replyOpen s && s.orders.seen2 == .noticeMark && !s.orders.noticeUsed

/-- The notice to be driven: the latch's, and in the halt countdown a FAULT alone (R51, R53). -/
def noticeToDrive (s : Station) : Option Notice :=
  if s.orders.countdown.isSome then s.orders.latch.filter fun n => n.kind == .fault else s.orders.latch

/-- The notice position used, and the pending notice handed to the port (R53). -/
def driveNotice (s : Station) : Station :=
  let t := { s with orders := { s.orders with noticeUsed := true } }
  match noticeToDrive s with
  | none => t
  | some n =>
    driveReply (noticeWord n s.number)
      { t with orders := { t.orders with driving := some n, drivenStands := true } }

/-- The outcome of a notice driven (R51, R53): a win clears the latch where it still holds the notice, and a FAULT won
in the halt countdown halts the station. -/
def settleNotice (n : Notice) (won : Bool) (s : Station) : Station :=
  let t := { s with orders := { s.orders with
    latch := if won && s.orders.drivenStands then none else s.orders.latch
    driving := none, drivenStands := false } }
  whenDue (won && n.kind == .fault && s.orders.countdown.isSome) enterHalted t

/-- The outcome handed back against the words the other stations drove (R14, R53). -/
def noticeOutcome (others : List Word) (s : Station) : Station :=
  match s.orders.driving, s.port.replyOut with
  | some n, some word => settleNotice n (wins word others) s
  | _, _ => s

/-- What a notice position brings (R53). -/
def noticePosition (event : NoticeEvent) (s : Station) : Station :=
  match event with
  | .whole others => whenDue (noticeOpen s) (fun s => noticeOutcome others (driveNotice s)) s
  | .drive => whenDue (noticeOpen s) driveNotice s
  | .outcome others => noticeOutcome others s

/-! ### The commands -/

/-- LEAVE (R40). -/
def execLeave (s : State) : Host.Outcome State Fault Refusal := s.run leavePosition

/-- PROBE (R41). -/
def execProbe (s : State) : Host.Outcome State Fault Refusal := s.run probePosition

/-- RECORD (R162). -/
def execRecord (between : Option (List OwnerCode)) (s : State) : Host.Outcome State Fault Refusal :=
  s.run (recordPosition between)

/-- FINISH_COMMIT (R167). -/
def execFinishCommit (s : State) : Host.Outcome State Fault Refusal := s.run (finishPosition .commit acceptCommit)

/-- FINISH_DISCARD (R167). -/
def execFinishDiscard (s : State) : Host.Outcome State Fault Refusal := s.run (finishPosition .discard acceptDiscard)

/-- SERVICE_DRAIN (R44). -/
def execServiceDrain (s : State) : Host.Outcome State Fault Refusal := s.run (servicePosition .drain drain)

/-- SERVICE_FORCE (R47). -/
def execServiceForce (s : State) : Host.Outcome State Fault Refusal := s.run (servicePosition .force force)

/-- SERVICE_RETURN (R46). -/
def execServiceReturn (s : State) : Host.Outcome State Fault Refusal := s.run (servicePosition .back bringBack)

/-- SERVICE_NONE (R48): action code 3 names no accepted pair, so it is refused STATE in every state. -/
def execServiceNone (s : State) : Host.Outcome State Fault Refusal := s.run (servicePosition .none id)

/-- NOTICE_POSITION (R53). -/
def execNoticePosition (event : NoticeEvent) (s : State) : Host.Outcome State Fault Refusal :=
  s.run (noticePosition event)

end Sys2Proof.Machine
end

