-- ==== Sys2Proof/Machine/Dispatch.lean ====
section
/-! DEFINITION. What each command does: one arm for each constructor, each one call of its meaning. -/
namespace Sys2Proof.Machine

/-- A command's effect on everything but the queue. -/
def exec (i : Instr) (s : State) : Host.Outcome State Fault Refusal :=
  match i with
  | .pinReset pins => Sys2Proof.Machine.execPinReset pins s
  | .framePulse pulse => Sys2Proof.Machine.execFramePulse pulse s
  | .pulseLoss => Sys2Proof.Machine.execPulseLoss s
  | .localFrame => Sys2Proof.Machine.execLocalFrame s
  | .storeStep => Sys2Proof.Machine.execStoreStep s
  | .ownerPosition channel others => Sys2Proof.Machine.execOwnerPosition channel others s
  | .samplePosition channel others => Sys2Proof.Machine.execSamplePosition channel others s
  | .contentionSurrender channel => Sys2Proof.Machine.execContentionSurrender channel s
  | .orderPosition word => Sys2Proof.Machine.execOrderPosition word s
  | .shelfReset => Sys2Proof.Machine.execShelfReset s
  | .join => Sys2Proof.Machine.execJoin s
  | .leave => Sys2Proof.Machine.execLeave s
  | .probe => Sys2Proof.Machine.execProbe s
  | .record between => Sys2Proof.Machine.execRecord between s
  | .finishCommit => Sys2Proof.Machine.execFinishCommit s
  | .finishDiscard => Sys2Proof.Machine.execFinishDiscard s
  | .serviceDrain => Sys2Proof.Machine.execServiceDrain s
  | .serviceForce => Sys2Proof.Machine.execServiceForce s
  | .serviceReturn => Sys2Proof.Machine.execServiceReturn s
  | .serviceNone => Sys2Proof.Machine.execServiceNone s
  | .noticePosition event => Sys2Proof.Machine.execNoticePosition event s
  | .bindExisting others => Sys2Proof.Machine.execBindExisting others s
  | .bindNew others => Sys2Proof.Machine.execBindNew others s
  | .offerLost others => Sys2Proof.Machine.execOfferLost others s
  | .backOffExpiry channel => Sys2Proof.Machine.execBackOffExpiry channel s
  | .stepExpiry channel => Sys2Proof.Machine.execStepExpiry channel s
  | .toneQuietExpiry channel => Sys2Proof.Machine.execToneQuietExpiry channel s
  | .cycleQuietExpiry channel => Sys2Proof.Machine.execCycleQuietExpiry channel s
  | .audioEnd channel => Sys2Proof.Machine.execAudioEnd channel s
  | .startBoundary channel => Sys2Proof.Machine.execStartBoundary channel s
  | .gradeFall => Sys2Proof.Machine.execGradeFall s
  | .listeningComplete => Sys2Proof.Machine.execListeningComplete s
  | .haltCountdownEnd => Sys2Proof.Machine.execHaltCountdownEnd s
  | .openRow bank row => Sys2Proof.Machine.execOpen bank row s
  | .fetch engine => Sys2Proof.Machine.execFetch engine s
  | .fetchClose engine => Sys2Proof.Machine.execFetchClose engine s
  | .put => Sys2Proof.Machine.execPut s
  | .putClose => Sys2Proof.Machine.execPutClose s
  | .close bank => Sys2Proof.Machine.execClose bank s
  | .renew => Sys2Proof.Machine.execRenew s
  | .setup => Sys2Proof.Machine.execSetup s
  | .selfRenewEntry => Sys2Proof.Machine.execSelfRenewEntry s
  | .selfRenewExit => Sys2Proof.Machine.execSelfRenewExit s
  | .pendingClose bank => Sys2Proof.Machine.execPendingClose bank s
  | .storeQuietEnd => Sys2Proof.Machine.execStoreQuietEnd s
  | .fetchDataArrival => Sys2Proof.Machine.execFetchDataArrival s
  | .renewDebtRise => Sys2Proof.Machine.execRenewDebtRise s
  | .captureStart => Sys2Proof.Machine.execCaptureStart s
  | .endSilenceStop => Sys2Proof.Machine.execEndSilenceStop s
  | .fullAreaStop => Sys2Proof.Machine.execFullAreaStop s
  | .flashByte byte => Sys2Proof.Machine.execFlashByte byte s

end Sys2Proof.Machine
end

