-- ==== Sys2Proof/Safety.lean ====
section
/-! DEFINITION. What counts as a sound state of the station, and the terms the larger claims use: what a frame pulse
does in each block, cadence searches, the store's commands, and the station image. -/
namespace Sys2Proof.Machine

/-! ### The store's contents -/

/-- The store's contents are in their one form: cells strictly rising, each within the store (R135). -/
def contentsOk (s : State) : Prop := s.store.memory.wf = true

/-! ### HALTED (R51) -/

/-- The station is HALTED. -/
def isHalted (s : State) : Prop := s.orders.state = .halted

/-- The command is a pin reset, the one command that a station leaves HALTED by (R51). -/
def isPinReset (i : Instr) : Bool :=
  match i with
  | .pinReset _ => true
  | _ => false

/-! ### Callers on a channel (R61, R73) -/

/-- The listeners and pending records of a channel. -/
def Holding.callers (h : Holding) : Nat :=
  match h with
  | .tone r => r.listeners
  | .cycle r => r.listeners + r.waiting.length
  | _ => 0

/-- An EXISTING offer in hand names a channel that can take one caller more (R61). -/
def offerHasRoom (s : State) : Prop :=
  ∀ o, s.offer = some o → o.isNew = false → (s.table.holding.get o.channel).callers < 255

/-- Listeners plus pending records never exceed 255 on a channel (R73). -/
def callersOk (s : State) : Prop := (∀ c, (s.table.holding.get c).callers ≤ 255) ∧ offerHasRoom s

/-! ### Where channels are held (section 3.3) -/

/-- The station may hold channels: in SERVING and DRAINING, outside the halt countdown. -/
def mayHold (s : State) : Prop :=
  (s.orders.state = .serving ∨ s.orders.state = .draining) ∧ s.orders.countdown = none

/-- The station holds nothing and records nothing, and claims nothing. -/
def holdsNothing (s : State) : Prop :=
  (∀ c, s.table.holding.get c = .none) ∧ s.table.claimed = none ∧ s.recorder = none

/-- In the halt countdown the station is stopped and its pool is empty (R30, R51). -/
def countdownStopped (s : State) : Prop := s.orders.countdown ≠ none → s.table.stopped = true ∧ s.table.pool = []

/-- Channels are held, claimed and recorded from in SERVING and DRAINING alone (section 3.3, R51, R106, R162). -/
def holdingOk (s : State) : Prop := countdownStopped s ∧ (mayHold s ∨ holdsNothing s)

/-! ### The cadence (R95 to R100) -/

/-- A step's condition is true (R98's table). -/
def condTrue (c : Cond) (listeners grade pass : Nat) : Prop :=
  match c with
  | .always => True
  | .noListeners => listeners = 0
  | .listeners => 1 ≤ listeners
  | .gradeHigh => 2 ≤ grade
  | .gradeLow => grade ≤ 1
  | .firstPass => pass = 0
  | .laterPass => 1 ≤ pass

/-- The step after a step, and the pass count after passing it (R99): the loop point follows the last step, and
passing that one raises the count, at most to 255. -/
def nextCandidate (p : Plan) (at' : Nat × Nat) : Nat × Nat :=
  if at'.1 + 1 < p.steps.length then (at'.1 + 1, at'.2) else (p.loop, min 255 (at'.2 + 1))

/-- The candidate of a search after `k` candidates have been passed over, with the pass count read there (R99). -/
def candidateAt (p : Plan) (start : Nat × Nat) : Nat → Nat × Nat
  | 0 => start
  | k + 1 => nextCandidate p (candidateAt p start k)

/-- Candidate `k` of a search is examined with a true condition (R98, R99). -/
def candidateTrue (p : Plan) (grade listeners : Nat) (start : Nat × Nat) (k : Nat) : Prop :=
  ∃ st, p.steps[(candidateAt p start k).1]? = some st ∧ condTrue st.cond listeners grade (candidateAt p start k).2

/-- What a search of R99 from a candidate makes of a record: the first of the plan's step count of candidates whose
condition is true is entered, and where none is true the generator waits with the next candidate. -/
def searched (p : Plan) (grade : Nat) (start : Nat × Nat) (r q : ToneRecord) : Prop :=
  q.plan = r.plan ∧ q.standing = r.standing ∧ q.listeners = r.listeners ∧ q.quiet = r.quiet ∧ q.phase1 = r.phase1
  ∧ q.phase2 = r.phase2 ∧ q.generator = r.generator
  ∧ (∀ k st, k < p.steps.length → candidateTrue p grade r.listeners start k →
      (∀ j, j < k → ¬ candidateTrue p grade r.listeners start j) → p.steps[(candidateAt p start k).1]? = some st →
      q.step = (candidateAt p start k).1 ∧ q.pass = (candidateAt p start k).2
        ∧ (∀ d, st.duration = some d → q.mode = .timed ∧ q.remaining = d) ∧ (st.duration = none → q.mode = .held)
        ∧ (st.sound = none → q.inc1 = r.inc1 ∧ q.inc2 = r.inc2)
        ∧ ∀ i set, st.sound = some i → p.sets[i]? = some set →
            (∀ x, set.c1 = some x → q.inc1 = x.increment) ∧ (set.c1 = none → q.inc1 = r.inc1)
              ∧ (∀ x, set.c2 = some x → q.inc2 = x.increment) ∧ (set.c2 = none → q.inc2 = r.inc2))
  ∧ ((∀ k, k < p.steps.length → ¬ candidateTrue p grade r.listeners start k) →
      q.mode = .waiting ∧ q.step = (candidateAt p start p.steps.length).1
        ∧ q.pass = (candidateAt p start p.steps.length).2 ∧ q.inc1 = r.inc1 ∧ q.inc2 = r.inc2)

/-- The cadence work of a record at a boundary (R100). -/
def cadenceStep (p : Plan) (grade : Nat) (r q : ToneRecord) : Prop :=
  (r.mode = .starting → q = r)
  ∧ (r.mode = .timed → 2 ≤ r.remaining → q = { r with remaining := r.remaining - 1 })
  ∧ (r.mode = .timed → r.remaining = 1 → searched p grade (nextCandidate p (r.step, r.pass)) r q)
  ∧ (∀ st, r.mode = .held → p.steps[r.step]? = some st → condTrue st.cond r.listeners grade r.pass → q = r)
  ∧ (∀ st, r.mode = .held → p.steps[r.step]? = some st → ¬ condTrue st.cond r.listeners grade r.pass →
      searched p grade (nextCandidate p (r.step, r.pass)) r q)
  ∧ (r.mode = .waiting → r.step < p.steps.length → searched p grade (r.step, r.pass) r q)

/-- A component of a tone in one frame (R115): the sine table read at the phase, scaled by the attenuation's gain; an
absent one adds nothing. -/
def componentSounds (c : Option Component) (phase : BitVec 16) (x : Int) : Prop :=
  (c = none → x = 0)
  ∧ ∀ y, c = some y → x = scale (sine (phase.toNat / 256)) (gain (-(y.attenuation : Int)))

/-- What a generator sounds in a frame, and the code formed of it (R95, R115, R116). -/
def toneSounds (p : Plan) (q : ToneRecord) (k : Code) : Prop :=
  (q.mode = .starting ∨ q.mode = .waiting → k = 255)
  ∧ ∀ st, q.mode = .timed ∨ q.mode = .held → p.steps[q.step]? = some st →
    (st.sound = none → k = 255)
    ∧ ∀ i set, st.sound = some i → p.sets[i]? = some set →
      (set.c1 = none → set.c2 = none → k = 255)
      ∧ (set.c1 ≠ none ∨ set.c2 ≠ none → ∃ x y, componentSounds set.c1 q.phase1 x
          ∧ componentSounds set.c2 q.phase2 y ∧ k = compress (max (-4095) (min 4095 (x + y))))

/-! ### A frame pulse accepted (R1 to R3, R6) -/

/-- No pulse has come within two store steps before: the pulse begins a frame (R1). -/
def pulseAccepted (s : State) : Prop := ∀ n, s.port.timer = some n → 2 ≤ n

/-- A superframe boundary comes before the frame that a pulse begins (R2, R3). -/
def boundaryPulse (long : Bool) (s : State) : Prop := long = true ∨ (s.port.frameCount + 1) % 16 = 0

/-- A notice posted is in the latch, or its kind is in the missed set (R52). -/
def reported (n : Notice) (t : State) : Prop := t.orders.latch = some n ∨ t.orders.missed.get n.kind.code = true

/-- The order unit takes a notice (R52): into an empty latch; in place of a pending notice of the same or a higher kind
code, whose kind is then missed; or as missed itself. Nothing else of the order unit that any rule reads changes. -/
structure Taken (n : Notice) (o o' : OrderUnit) : Prop where
  rest : o' = { o with latch := o'.latch, missed := o'.missed, drivenStands := o'.drivenStands }
  empty : o.latch = none → o'.latch = some n ∧ o'.missed = o.missed
  replaces : ∀ k, o.latch = some k → n.kind.code ≤ k.kind.code →
    o'.latch = some n ∧ ∀ i, o'.missed.get i = (o.missed.get i || i == k.kind.code)
  missed : ∀ k, o.latch = some k → k.kind.code < n.kind.code →
    o'.latch = some k ∧ ∀ i, o'.missed.get i = (o.missed.get i || i == n.kind.code)

/-- The halt countdown comes to its end in the frame (R51). -/
def haltsNow (u : State) : Prop := ∃ n, n ≤ 1 ∧ u.orders.countdown = some n

/-- The channel is read free and is not in the back-off list (R21). -/
def claimable (t : State) (c : Channel) : Prop :=
  t.table.view.get c = some 15 ∧ ∀ b ∈ t.table.backOff, b.channel ≠ c

/-- The channel stands at place `i` of the station's preference order (R21). -/
def atPlace (t : State) (i : Nat) (c : Channel) : Prop := c.val = (3 * t.number.toNat + i) % 48

/-- A plan is covered: a TONE channel runs it with its standing mark set (R104). -/
def isCovered (u : State) (plan : Nat) : Prop :=
  ∃ c r, u.table.holding.get c = .tone r ∧ r.plan = plan ∧ r.standing = true

/-- The first listed plan that is not covered (R104). -/
def firstToCover (u : State) (plan : Nat) : Prop :=
  ∃ before after, u.tables.standing = before ++ plan :: after ∧ (∀ p ∈ before, isCovered u p) ∧ ¬ isCovered u plan

/-- What the boundary before a frame, if there is one, makes of the cycle on channel `c` whose record is `r`: its
quiet timer and T are stepped, and the quiet expiry, the audio end and the start boundary that then fall due come
about, as CYCLE_QUIET_EXPIRY, AUDIO_END and START_BOUNDARY have them (R74). -/
def cycleAtBoundary (long : Bool) (c : Channel) (r : CycleRecord) (u v : State) : Prop :=
  (¬ boundaryPulse long u → v = u)
  ∧ (boundaryPulse long u → ∃ v1 v2,
      exec (.cycleQuietExpiry c.val)
        { u with table := { u.table with
            holding := u.table.holding.put c (.cycle { r with quiet := r.quiet - 1, t := r.t - 1 }) } } = .next v1
      ∧ exec (.audioEnd c.val) v1 = .next v2 ∧ exec (.startBoundary c.val) v2 = .next v)

/-- What the boundary before a frame, if there is one, makes of the callers of the TONE channel `c` whose record is `r`:
its quiet timer is stepped, and its expiry comes about as TONE_QUIET_EXPIRY has it (R102). -/
def toneAtBoundary (long : Bool) (c : Channel) (r : ToneRecord) (u v : State) : Prop :=
  (¬ boundaryPulse long u → v = u)
  ∧ (boundaryPulse long u →
      exec (.toneQuietExpiry c.val)
        { u with table := { u.table with holding := u.table.holding.put c (.tone { r with quiet := r.quiet - 1 }) } }
          = .next v)

/-- The boundary before the frame ends the service of channel `c`: a cycle nobody listens to or waits for, or an ordinary
tone whose quiet timer runs out (R85, R102). -/
def endsAt (long : Bool) (c : Channel) (u : State) : Prop :=
  boundaryPulse long u
  ∧ ((∃ r v, u.table.holding.get c = .cycle r ∧ cycleAtBoundary long c r u v ∧ (v.table.holding.get c).isCycle = false)
    ∨ ∃ r v, u.table.holding.get c = .tone r ∧ toneAtBoundary long c r u v ∧ (v.table.holding.get c).isTone = false)

/-- The generator that a new tone takes: the lowest free one, with no TONE channel running the plan and room for one more
(R34, R94, R104). -/
def newToneFor (u : State) (plan : Nat) (g : Fin 8) : Prop :=
  (∀ d q, u.table.holding.get d = .tone q → q.plan ≠ plan ∧ q.generator ≠ g)
  ∧ (∀ h, h < g → ∃ d q, u.table.holding.get d = .tone q ∧ q.generator = h)
  ∧ ((numbers 48).filter fun d => (u.table.holding.get d).isTone).length < 8

/-- Channel `c` has been taken for a standing tone in the frame (R94, R104). -/
def startsStanding (t : State) (c : Channel) (plan : Nat) (g : Fin 8) : Prop :=
  t.table.contention.get c = 0 ∧ ∃ q, t.table.holding.get c = .tone q ∧ q.plan = plan ∧ q.standing = true
    ∧ q.listeners = 0 ∧ q.quiet = t.tables.quietPeriod ∧ q.mode = .starting ∧ q.generator = g

/-- No channel is given back at the boundary before the frame: there is no boundary, or no TONE and no CYCLE channel
to end at it (R26, R74). -/
def noneReturned (long : Bool) (u : State) : Prop :=
  boundaryPulse long u →
    ∀ c, (u.table.holding.get c).isTone = false ∧ (u.table.holding.get c).isCycle = false

/-- What a frame pulse does in the channel table: `u` is the station as the pulse finds it, `t` as it leaves it. -/
structure TableFrame (long : Bool) (u t : State) : Prop where
  /-- The view and the stopped condition stand (R17, R30). -/
  view : t.table.view = u.table.view
  stopped : t.table.stopped = u.table.stopped
  /-- At a boundary the number of view entries that read free becomes H, 48 while nothing has been read (R18). -/
  free : boundaryPulse long u → t.table.free =
    if ∀ c, u.table.view.get c = none then 48 else ((numbers 48).filter fun c => u.table.view.get c == some 15).length
  freeKept : ¬ boundaryPulse long u → t.table.free = u.table.free
  /-- At a boundary every contention count is set to 0 (R29). -/
  contention : boundaryPulse long u → ∀ c, t.table.contention.get c = 0
  contentionKept : ¬ boundaryPulse long u → ∀ c, c ∉ u.table.pool → t.table.contention.get c = u.table.contention.get c
  /-- Every back-off entry is a frame older, and one that reaches 0 is removed (R23). -/
  backOff : t.table.backOff =
    (u.table.backOff.map fun b => { b with left := b.left - 1 }).filter fun b => b.left != 0
  /-- The effective pool target is formed from the station state and the grade (R20). -/
  target : t.table.target =
    if t.orders.state = .serving then (if t.monitor.grade = 3 then min t.tables.poolTarget 1 else t.tables.poolTarget)
    else 0
  /-- In SERVING, with the pool below the target, the first claimable channel of the preference order is claimed
  (R21). -/
  claim : ∀ c, t.table.claimed = some c ↔
    t.orders.state = .serving ∧ t.table.stopped = false ∧ t.table.pool.length < t.table.target
      ∧ ∃ i, i < 48 ∧ atPlace t i c ∧ claimable t c ∧ ∀ j, j < i → ∀ d, atPlace t j d → ¬ claimable t d
  /-- With no standing plan to cover, the newest pool channel is released where the pool is above the target (R24). -/
  release : noneReturned long u → (t.orders.state ≠ .serving ∨ ∀ p ∈ u.tables.standing, isCovered u p) →
    (u.table.pool.length ≤ t.table.target → t.table.pool = u.table.pool)
      ∧ ∀ rest c, u.table.pool = rest ++ [c] → u.table.holding.get c = .pool → t.table.target ≤ rest.length →
          t.table.pool = rest ∧ t.table.holding.get c = .none
  /-- A channel that ends at the boundary goes to POOL, in the newest place, while the pool is below the target of the
  frame, and to NONE otherwise. Of several, which come first is open (R26, R85, log entry 3). -/
  returned : t.orders.state ≠ .serving ∨ (∀ p ∈ u.tables.standing, isCovered u p) →
    (u.table.pool.length ≤ t.table.target → ∃ back, t.table.pool = u.table.pool ++ back ∧ back.Nodup
      ∧ (∀ c ∈ back, endsAt long c u ∧ t.table.holding.get c = .pool)
      ∧ ∀ c, endsAt long c u → c ∉ back → t.table.holding.get c = .none ∧ t.table.pool.length = t.table.target)
    ∧ (t.table.target < u.table.pool.length → ∀ c, endsAt long c u → t.table.holding.get c = .none)
  /-- The first uncovered plan is covered by marking the lowest channel that runs it (R104 way 1), and a pool above the
  target gives up its newest channel in the same frame (R24). -/
  startMarked : noneReturned long u → t.orders.state = .serving →
    ∀ plan c r, firstToCover u plan → u.table.holding.get c = .tone r → r.plan = plan →
      (∀ d, d < c → ∀ q, u.table.holding.get d = .tone q → q.plan ≠ plan) →
      (u.table.pool.length ≤ t.table.target → t.table.pool = u.table.pool)
      ∧ (∀ rest d, u.table.pool = rest ++ [d] → u.table.holding.get d = .pool → t.table.target ≤ rest.length →
          t.table.pool = rest ∧ t.table.holding.get d = .none)
      ∧ ∃ q, t.table.holding.get c = .tone q ∧ q.plan = plan ∧ q.standing = true
        ∧ q.listeners = r.listeners ∧ q.quiet = r.quiet
  /-- Or by a new channel from the oldest place of the pool, with the lowest free generator (R25, R104 way 2). -/
  startNew : noneReturned long u → t.orders.state = .serving → u.table.pool.length ≤ t.table.target →
    ∀ plan c rest g, firstToCover u plan → newToneFor u plan g → u.table.pool = c :: rest →
      t.table.pool = rest ∧ startsStanding t c plan g
  /-- In a frame with a surplus as well, the release and the start may be taken in either order: the newest channel is
  released, unless the start taken first has brought the pool down to its target (R24, R104, log entry 4). -/
  startInSurplus : noneReturned long u → t.orders.state = .serving → t.table.target < u.table.pool.length →
    ∀ plan c g, firstToCover u plan → newToneFor u plan g → u.table.holding.get c = .pool →
      (∀ mid d, u.table.pool = c :: (mid ++ [d]) → d ≠ c → u.table.holding.get d = .pool →
        startsStanding t c plan g
          ∧ ((t.table.pool = mid ∧ t.table.holding.get d = .none)
            ∨ (mid.length + 1 ≤ t.table.target ∧ t.table.pool = mid ++ [d] ∧ t.table.holding.get d = .pool)))
      ∧ (u.table.pool = [c] → t.table.pool = [] ∧ (t.table.holding.get c = .none ∨ startsStanding t c plan g))

/-- What a frame pulse does in the order unit. -/
structure OrderFrame (long : Bool) (u t : State) : Prop where
  /-- The recent-order memory is a frame older (R15). -/
  seen : t.orders.seen0 = .nothing ∧ t.orders.seen1 = u.orders.seen0 ∧ t.orders.seen2 = u.orders.seen1
  /-- Every waiting order is a frame older, and one whose reply position has passed is gone (R36). -/
  list : ¬ haltsNow u → t.orders.list =
    (u.orders.list.map fun w => { w with age := w.age + 1 }).filter fun w => decide (w.age ≤ 2)
  /-- The halt countdown decreases by 1; the listening count and the work check wait (R51). -/
  countdown : ∀ n, u.orders.countdown = some (n + 2) → t.orders.countdown = some (n + 1)
    ∧ (u.orders.state ≠ .isolated → t.orders.state = u.orders.state ∧ t.orders.listening = u.orders.listening)
  /-- At 0 the station is HALTED and the store stops (R51, R151). -/
  halt : haltsNow u → t.orders.state = .halted ∧ t.orders.countdown = none ∧ t.orders.list = []
    ∧ t.orders.latch = none ∧ (∀ k, t.orders.missed.get k = false)
    ∧ t.store.state = if u.store.state = .unset then .unset else .stopped
  /-- Each boundary in LISTENING is counted, and the sixteenth takes the station into SERVING (R43). -/
  listening : u.orders.countdown = none → u.orders.state = .listening →
    (¬ boundaryPulse long u → t.orders.state = .listening ∧ t.orders.listening = u.orders.listening)
    ∧ (boundaryPulse long u → u.orders.listening + 1 < 16 →
        t.orders.state = .listening ∧ t.orders.listening = u.orders.listening + 1)
    ∧ (boundaryPulse long u → 16 ≤ u.orders.listening + 1 →
        t.orders.state = .serving ∧ reported { kind := .state, channel := none, detail := 2 } t)
  /-- DRAINING ends in RESTING at the first frame that finds no work (R45, R149). -/
  workCheck : u.orders.countdown = none → u.orders.state = .draining →
    (t.recorder ≠ none ∨ (∃ c, t.table.holding.get c ≠ .none) → t.orders.state = .draining)
    ∧ (t.recorder = none → (∀ c, t.table.holding.get c = .none) →
        t.orders.state = .resting ∧ t.store.work = .entry
          ∧ reported { kind := .state, channel := none, detail := 4 } t)
  /-- A pulse that resumes takes ISOLATED to LISTENING, from 0; that the boundary before the frame is not counted is read
  from the 16 boundaries that R49 puts after the resumption (R6, R43, R49, log entry 15). -/
  resume : u.orders.countdown = none → u.orders.state = .isolated → u.port.timer = none →
    t.orders.state = .listening ∧ t.orders.listening = 0
  /-- Every other state stands. -/
  others : u.orders.countdown = none →
    u.orders.state = .loading ∨ u.orders.state = .serving ∨ u.orders.state = .resting ∨ u.orders.state = .halted →
    t.orders.state = u.orders.state

/-- The station state that the boundary before a frame finds: a pulse that resumes has ended ISOLATED (R6, R49). -/
def stateAtBoundary (u : State) : StationState :=
  if u.orders.state = .isolated ∧ u.port.timer = none then .listening else u.orders.state

/-- The station state is one in which the monitor works at a boundary (R158). -/
def monitorWorks (st : StationState) : Prop :=
  st = .loading ∨ st = .listening ∨ st = .serving ∨ st = .draining ∨ st = .resting

/-- What a frame pulse does in the congestion monitor. -/
structure MonitorFrame (long : Bool) (u t : State) : Prop where
  /-- Between boundaries, and in the states it does not work in, it stands (R154, R158). -/
  kept : ¬ boundaryPulse long u ∨ ¬ monitorWorks (stateAtBoundary u) → t.monitor = u.monitor
  /-- At a boundary the three pressures are formed from H, the free engines and the debt (R153). -/
  pressures : boundaryPulse long u → monitorWorks (stateAtBoundary u) →
    t.monitor.channelPressure =
        (if 12 ≤ t.table.free then 0 else if 6 ≤ t.table.free then 1 else if 2 ≤ t.table.free then 2 else 3)
      ∧ t.monitor.enginePressure =
        (if 6 ≤ freeEngines t.toStation then 0 else if 3 ≤ freeEngines t.toStation then 1
          else if 1 ≤ freeEngines t.toStation then 2 else 3)
      ∧ t.monitor.storePressure =
        (if u.store.debt ≤ 2 then 0 else if u.store.debt ≤ 4 then 1 else if u.store.debt ≤ 6 then 2 else 3)
  /-- The grade rises at once to a higher raw grade, the largest pressure; a lower one is counted, and the eighth in a
  row lowers the grade by one (R154). -/
  grade : boundaryPulse long u → monitorWorks (stateAtBoundary u) →
    ∀ raw, raw = max t.monitor.channelPressure (max t.monitor.enginePressure t.monitor.storePressure) →
      (u.monitor.grade < raw → t.monitor.grade = raw ∧ t.monitor.fall = 0)
      ∧ (raw = u.monitor.grade → t.monitor.grade = raw ∧ t.monitor.fall = 0)
      ∧ (raw < u.monitor.grade → u.monitor.fall + 1 < 8 →
          t.monitor.grade = u.monitor.grade ∧ t.monitor.fall = u.monitor.fall + 1)
      ∧ (raw < u.monitor.grade → 8 ≤ u.monitor.fall + 1 →
          t.monitor.grade = u.monitor.grade - 1 ∧ t.monitor.fall = 0)
  /-- A change of grade is reported with the new grade and pressures, also at a resumption (R156, R157). -/
  notice : (stateAtBoundary u).answers = true → ¬ haltsNow u → t.monitor.grade ≠ u.monitor.grade →
    reported
      { kind := .grade, channel := none
        detail := 64 * t.monitor.grade + 16 * t.monitor.channelPressure + 4 * t.monitor.enginePressure
          + t.monitor.storePressure } t

/-- What a frame pulse does in the store controller, unless the station halts in the frame. -/
structure StoreFrame (u t : State) : Prop where
  /-- The frame is counted, and the eighth raises the debt, which at 8 forces a renew (R144, R146). -/
  counted : ¬ haltsNow u → u.store.state.counts = true →
    (u.store.frames + 1 < 8 → t.store.frames = u.store.frames + 1 ∧ t.store.debt = u.store.debt)
    ∧ (8 ≤ u.store.frames + 1 → t.store.frames = 0 ∧ t.store.debt = u.store.debt + 1
        ∧ (8 ≤ u.store.debt + 1 → t.store.work = .forced ∨ t.store.work = .entry))
  notCounted : ¬ haltsNow u → u.store.state.counts = false →
    t.store.frames = u.store.frames ∧ t.store.debt = u.store.debt
  /-- The rest stands. -/
  rest : ¬ haltsNow u →
    t.store = { u.store with frames := t.store.frames, debt := t.store.debt, work := t.store.work }

/-- The play position of a frame (R78): 0 in the frame a cycle starts with, otherwise one on from the frame before,
counted in whole superframes. -/
def playPosition (r q : CycleRecord) (frame : Nat) : Nat :=
  if frame ≠ 0 then 16 * (r.position / 16) + frame
  else if q.number = r.number then 16 * (r.position / 16 + 1) else 0

/-- What a frame pulse does on the CYCLE channel `c`, whose engine no other channel has. -/
structure CycleFrame (long : Bool) (c : Channel) (r : CycleRecord) (u v t : State) : Prop where
  /-- A channel in PRIMING or GAP has the record the boundary left (R74). -/
  silent : ∀ q, v.table.holding.get c = .cycle q → q.substate ≠ .playing →
    t.table.holding.get c = .cycle q ∧ engineAt t.toStation r.engine = engineAt v.toStation r.engine
  /-- A PLAYING channel: the play mark is set, older samples are dropped, and the code of the mark is formed with the
  entry's trim. Where the ring does not hold it, silence is formed, an underrun that begins a run is counted, and one in
  the first burst is LATE, once a cycle (R78, R89, R113, R121, R122). -/
  playing : ∀ q eng e p, v.table.holding.get c = .cycle q → q.substate = .playing →
    engineAt v.toStation r.engine = some eng → findEntry t.toStation r.announcement = some e →
    p = playPosition r q t.port.frameCount →
    (∀ before x after, eng.ring = before ++ x :: after → x.position = ⟨eng.mark.cycle, p⟩ →
        (∀ y ∈ before, y.position ≠ ⟨eng.mark.cycle, p⟩) →
        t.formed.get c = some (trimCode e.trim x.code) ∧ t.table.holding.get c = .cycle { q with position := p }
          ∧ (t.engines.get r.engine).underruns = (v.engines.get r.engine).underruns
          ∧ engineAt t.toStation r.engine = some { eng with
              mark := ⟨eng.mark.cycle, p⟩, run := false
              ring := eng.ring.filter fun y => !y.position.before ⟨eng.mark.cycle, p⟩ })
    ∧ ((∀ y ∈ eng.ring, y.position ≠ ⟨eng.mark.cycle, p⟩) →
        t.formed.get c = some 255
          ∧ (t.engines.get r.engine).underruns = (v.engines.get r.engine).underruns + (if eng.run then 0 else 1)
          ∧ t.table.holding.get c =
              .cycle { q with position := p, late := q.late || (!eng.run && decide (p < 16)) }
          ∧ engineAt t.toStation r.engine = some { eng with
              mark := ⟨eng.mark.cycle, p⟩, run := true
              ring := eng.ring.filter fun y => !y.position.before ⟨eng.mark.cycle, p⟩ }
          ∧ (eng.run = false → p < 16 → q.late = false → t.orders.state.answers = true →
              reported { kind := .late, channel := some c, detail := q.number.toNat } t))
  /-- A channel that ended at the boundary is a CYCLE channel no more, and its engine is free (R85, R130). -/
  ended : (∀ q, v.table.holding.get c ≠ .cycle q) →
    (t.table.holding.get c).isCycle = false ∧ engineAt t.toStation r.engine = none
  /-- A quiet timer that runs out at the boundary is reported with the listeners it removed (R83). -/
  stale : boundaryPulse long u → r.quiet ≤ 1 → 1 ≤ r.listeners → u.orders.state.answers = true → ¬ haltsNow u →
    reported { kind := .stale, channel := some c, detail := r.listeners } t

/-- What a frame pulse does on the TONE channel `c`. -/
structure ToneFrame (long : Bool) (c : Channel) (r : ToneRecord) (u t : State) : Prop where
  between : ¬ boundaryPulse long u → ∃ q, t.table.holding.get c = .tone q ∧ q.plan = r.plan
    ∧ q.listeners = r.listeners ∧ q.quiet = r.quiet ∧ q.generator = r.generator
  boundary : boundaryPulse long u → ∀ v,
    exec (.toneQuietExpiry c.val)
      { u with table := { u.table with holding := u.table.holding.put c (.tone { r with quiet := r.quiet - 1 }) } }
        = .next v →
    (∀ q, v.table.holding.get c = .tone q → ∃ x, t.table.holding.get c = .tone x ∧ x.plan = q.plan
      ∧ x.listeners = q.listeners ∧ x.quiet = q.quiet ∧ x.generator = q.generator)
    ∧ ((v.table.holding.get c).isTone = false →
        ∀ x, t.table.holding.get c = .tone x → x.standing = true ∧ x.listeners = 0 ∧ x.mode = .starting)
  stale : boundaryPulse long u → r.quiet ≤ 1 → 1 ≤ r.listeners → u.orders.state.answers = true → ¬ haltsNow u →
    reported { kind := .stale, channel := some c, detail := r.listeners } t
  /-- A channel still held does the cadence work of the boundary, with the grade of the superframe just ended; a
  generator in STARTING then enters its cadence at step 0 with pass count 0, with the grade in force; the code of the
  frame is formed, and the phases advance, in a frame with a boundary before it and in one without (R95 to R97, R99,
  R100, R115, R116). -/
  sounding : ∀ p v q, findPlan u.toStation r.plan = some p → p.loop < p.steps.length → toneAtBoundary long c r u v →
    v.table.holding.get c = .tone q →
    ∃ q1 q2 k x, (¬ boundaryPulse long u → q1 = q) ∧ (boundaryPulse long u → cadenceStep p u.monitor.grade q q1)
      ∧ (q1.mode = .starting → searched p t.monitor.grade (0, 0) q1 q2) ∧ (q1.mode ≠ .starting → q2 = q1)
      ∧ toneSounds p q2 k ∧ t.formed.get c = some k ∧ t.table.holding.get c = .tone x
      ∧ x = { q2 with phase1 := q2.phase1 + q2.inc1, phase2 := q2.phase2 + q2.inc2, standing := x.standing }

/-! ### The store's commands (R132, R138 to R141) -/

/-- An earlier step lies `d` steps or more before step `n`; an absent one places no limit (R136, R139). -/
def apart (earlier : Option Nat) (d n : Nat) : Prop := ∀ k, earlier = some k → k + d ≤ n

/-- A bank is closed: CLOSED with no pending close, from the step after its last close (R137, R138). -/
def isClosed (t : Store) (b : Fin 8) : Prop :=
  (t.banks.get b).openRow = none ∧ (t.banks.get b).pendingClose = none ∧ apart (t.banks.get b).lastClose 1 t.step

/-- A read or a write of burst `a` finds its bank open on its row, a row of the store, with no pending close, one step
or more after the OPEN (R135, R138, R139). -/
def burstOpen (t : Store) (a : Nat) : Prop :=
  t.state = .ready ∧ a / 512 < 8192 ∧ (t.banks.get (bankOf a)).openRow = some (a / 512)
    ∧ (t.banks.get (bankOf a)).pendingClose = none ∧ apart (t.banks.get (bankOf a)).lastOpen 1 t.step

/-- A command keeps the states of R138, the distances of R139, the open window of R140 and the data path of R141. -/
def keepsTheRules (s : Station) (cmd : StoreCmd) : Prop :=
  match cmd with
  | .openRow b row =>
    s.store.state = .ready ∧ isClosed s.store b ∧ row < 8192 ∧ apart (s.store.banks.get b).lastClose 2 s.store.step
      ∧ (∀ x : Fin 8, x.val % 2 = b.val % 2 → apart (s.store.banks.get x).lastOpen 2 s.store.step)
      ∧ (3 ≤ s.store.opens.length → apart s.store.opens.head? 6 s.store.step)
  | .fetch e _ => ∃ eng, engineAt s e = some eng ∧ burstOpen s.store (eng.area.base + eng.pointer.burst)
  | .put who _ => burstOpen s.store (requestAddress s who) ∧ s.store.lines.read = []
      ∧ ∀ d ∈ s.store.due, d.step ≠ s.store.step
  | .close b =>
    s.store.state = .ready ∧ (s.store.banks.get b).openRow ≠ none ∧ (s.store.banks.get b).pendingClose = none
      ∧ apart (s.store.banks.get b).lastOpen 2 s.store.step ∧ apart (s.store.banks.get b).lastFetch 1 s.store.step
      ∧ apart (s.store.banks.get b).lastPut 2 s.store.step
  | .renew => s.store.state = .ready ∧ ∀ b, isClosed s.store b
  | .setup _ => s.store.state = .unset ∧ ∀ b, isClosed s.store b
  | .selfRenewEntry => s.store.state = .ready ∧ (∀ b, isClosed s.store b) ∧ s.store.due = []
  | .selfRenewExit => s.store.state = .selfRenew

/-- A request before the fetch scheduler in this step (R124, R165, R176). -/
def asks (s : Station) (q : Request) : Prop :=
  recorderRequest s = some q ∨ loaderRequest s = some q ∨ ∃ e, engineRequest s e = some q

/-- The place of a requester among those of equal slack: the recorder before any engine, engines by number (R132). -/
def rankPlace (who : Requester) : Nat :=
  match who with
  | .recorder => 0
  | .loader => 1
  | .engine e => e.val + 2

/-- One request comes before another in rank (R132). -/
def ranksBefore (q x : Request) : Prop := q.slack < x.slack ∨ (q.slack = x.slack ∧ rankPlace q.who < rankPlace x.who)

/-- The read or write of a requester, with or without a close after it (R137). -/
def access (who : Requester) (close : Bool) : StoreCmd :=
  match who with
  | .engine e => .fetch e close
  | who => .put who close

/-- Another requester of the step has a burst in the bank and the row of a request (R142). -/
def sharesRow (s : Station) (q : Request) : Prop :=
  ∃ x, asks s x ∧ x.who ≠ q.who ∧ bankOf x.address = bankOf q.address ∧ x.address / 512 = q.address / 512

/-- A command is the next command of a request (R142's table). -/
structure NextCommand (s : Station) (q : Request) (cmd : StoreCmd) : Prop where
  shared : (s.store.banks.get (bankOf q.address)).pendingClose = none →
    (s.store.banks.get (bankOf q.address)).openRow = some (q.address / 512) → sharesRow s q → cmd = access q.who false
  alone : (s.store.banks.get (bankOf q.address)).pendingClose = none →
    (s.store.banks.get (bankOf q.address)).openRow = some (q.address / 512) → ¬ sharesRow s q → cmd = access q.who true
  otherRow : (s.store.banks.get (bankOf q.address)).pendingClose = none →
    ∀ row, (s.store.banks.get (bankOf q.address)).openRow = some row → row ≠ q.address / 512 →
      cmd = .close (bankOf q.address)
  notOpen : (s.store.banks.get (bankOf q.address)).pendingClose ≠ none
      ∨ (s.store.banks.get (bankOf q.address)).openRow = none → cmd = .openRow (bankOf q.address) (q.address / 512)

/-- A step goes to closing banks: the lowest-numbered bank whose CLOSE keeps the rules is closed, and where there is none
nothing is issued (R146, R147, R149). -/
def closesLowest (s : Station) (cmd : Option StoreCmd) : Prop :=
  (∀ b, keepsTheRules s (.close b) → (∀ x, x < b → ¬ keepsTheRules s (.close x)) → cmd = some (.close b))
  ∧ ((∀ b, ¬ keepsTheRules s (.close b)) → cmd = none)

/-- A step goes to a renew: RENEW where every bank is closed, and otherwise a bank is closed toward it; the renew work
stands until the RENEW (R146, R147). -/
def renewsOrCloses (s : Station) (inHand : RenewWork) (cmd : Option StoreCmd) (work : RenewWork) : Prop :=
  ((∀ b, isClosed s.store b) → cmd = some .renew ∧ work = .none)
  ∧ (¬ (∀ b, isClosed s.store b) → closesLowest s cmd ∧ work = inHand)

/-- What a step whose renew work is in hand, or that no requester asks at, goes to in READY: the forced renew, the
self-renew entry, the early renew, or nothing (R143 cases 4, 6 and 7, R146, R147, R149). -/
structure RenewStep (s : Station) (cmd : Option StoreCmd) (work : RenewWork) : Prop where
  forced : s.store.work = .forced → renewsOrCloses s .forced cmd work
  entry : s.store.work = .entry →
    ((∀ b, isClosed s.store b) → s.store.due = [] → cmd = some .selfRenewEntry ∧ work = .none)
    ∧ (¬ (∀ b, isClosed s.store b) ∨ s.store.due ≠ [] → closesLowest s cmd ∧ work = .entry)
  early : s.store.work = .none ∨ s.store.work = .early → (∀ q, ¬ asks s q) →
    (-2 < s.store.debt → renewsOrCloses s .early cmd work) ∧ (s.store.debt ≤ -2 → cmd = none ∧ work = .none)

/-- An engine's request lies wholly before its play mark, so that it is aimed afresh (R124, R125). -/
def aimsAfresh (g : Engine) : Prop :=
  g.pointer.burst < g.area.length ∧ g.ring.length + 16 * g.flights.length ≤ 16
  ∧ g.pointer.cycle = g.mark.cycle ∧ 16 * (g.pointer.burst + 1) ≤ g.mark.number

/-- An engine's fetch pointer stands past the end of the playing cycle (R126). -/
def pastPlaying (r : CycleRecord) (g : Engine) : Prop :=
  r.substate = .playing ∧ g.pointer.cycle = g.mark.cycle ∧ g.area.length ≤ g.pointer.burst

/-- What the wrap makes of an engine: past the end of the playing cycle the pointer moves to burst 0 of the next, and the
entry's current area is latched (R126). -/
def wrapped (r : CycleRecord) (e : Entry) (g g' : Engine) : Prop :=
  (pastPlaying r g → g' = { g with pointer := { cycle := g.mark.cycle + 1, burst := 0 }, area := e.area })
  ∧ (¬ pastPlaying r g → g' = g)

/-- Nothing falls due at a store step, and no requester asks for a burst (R124, R126, R137, R141, R165, R176). -/
structure NothingDue (s : State) : Prop where
  issued : s.store.issued = none
  arrivals : ∀ d ∈ s.store.due, s.store.step < d.step
  closes : ∀ b k, (s.store.banks.get b).pendingClose = some k → s.store.step < k
  /-- Every bound engine's pointer stands on a burst that its ring has no room for. -/
  engines : ∀ e eng, engineAt s.toStation e = some eng →
    eng.pointer.burst < eng.area.length ∧ 16 < eng.ring.length + 16 * eng.flights.length
  recorder : ∀ r, s.recorder = some r → r.ring.length < 16
  loader : s.orders.state = .loading → s.loader.phase = .audio →
    s.loader.hand.length < 16 ∧ (s.tables.directory ≠ [] ∨ s.store.state ≠ .ready)

/-- The store has no command to issue with no requester asking (R143). -/
def storeIdles (t : Store) : Prop :=
  (t.state = .unset ∧ t.setup = none) ∨ (t.state = .selfRenew ∧ t.exitSignal = false) ∨ t.state = .stopped
    ∨ (t.state = .ready ∧ t.work = .none ∧ t.debt ≤ -2)

/-- What bound engine `e`, with its binding count, makes of the items that fall due, in order (R119, R128): one of the
present binding is in flight no more, and its samples not older than the play mark join the ring. -/
def received (count : BitVec 8) (e : Fin 16) : List DueItem → Engine → Engine
  | [], eng => eng
  | d :: rest, eng =>
    received count e rest
      (if d.engine = e ∧ d.count = count then
        { eng with
          flights := eng.flights.erase d.place
          ring := eng.ring ++ (samplesOf d.place d.codes).filter fun x => !x.position.before eng.mark }
      else eng)

/-! ### Addressed orders refused (R37) -/

/-- The checks of R37 that both actions of a FINISH meet, with the reason of the first that fails. -/
def finishRefused (s : State) (cls : Nat) (reason : Reason) : Prop :=
  (reason = .cls ∧ cls < 2)
  ∨ (reason = .state ∧ 2 ≤ cls ∧ ∀ r, s.recorder = some r → r.phase = .committing)
  ∨ (reason = .cls ∧ 2 ≤ cls ∧ ∃ r, s.recorder = some r ∧ r.phase ≠ .committing ∧ cls < r.cls)

/-- The command that acts on a SERVICE of the given action. -/
def serviceCommand (action : ServiceAction) : Instr :=
  match action with
  | .drain => .serviceDrain
  | .force => .serviceForce
  | .back => .serviceReturn
  | .none => .serviceNone

/-! ### Word layouts (chapter 13: R178, R179) -/

/-- The number in bits `hi` to `lo` of a word. -/
def bits (w : Word) (hi lo : Nat) : Nat := w.toNat / 2 ^ lo % 2 ^ (hi + 1 - lo)

/-- An idle word: kind 0, or 7 to 15. -/
def isIdle (w : Word) : Prop := bits w 31 28 = 0 ∨ 7 ≤ bits w 31 28

/-- The fields of an order word (section 13.1). -/
structure OrderLayout (w : Word) (o : Order) : Prop where
  cls : o.cls = bits w 27 26
  tag : o.tag.toNat = bits w 25 18
  join : bits w 31 28 = 1 → o.body =
    .join (bits w 17 9) (if bits w 8 8 = 1 then .any else .start) (decide (bits w 7 7 = 1))
  leave : bits w 31 28 = 2 → o.body = .leave (bits w 17 12)
  probe : bits w 31 28 = 3 → o.body = .probe (bits w 17 14)
  record : bits w 31 28 = 4 → o.body = .record (bits w 17 14) (bits w 13 5)
  finish : bits w 31 28 = 5 → o.body = .finish (bits w 17 14) (if bits w 13 13 = 1 then .discard else .commit)
  service : bits w 31 28 = 6 → o.body = .service (bits w 17 14)
    (match bits w 13 12 with
      | 0 => .drain
      | 1 => .force
      | 2 => .back
      | _ => .none)

/-- The five fields that every reply form but the PROBE reply is laid out in (section 13.2). -/
def hasFields (w : Word) (result upper : Nat) (station : BitVec 4) (channel low : Nat) : Prop :=
  bits w 31 30 = result ∧ bits w 29 22 = upper ∧ bits w 21 18 = station.toNat ∧ bits w 17 12 = channel
    ∧ bits w 11 0 = low

/-- The refusal reason codes (R38). -/
def reasonNumber (r : Reason) : Nat :=
  match r with
  | .cls => 1
  | .state => 2
  | .unknown => 3
  | .noChannel => 4
  | .busy => 5
  | .empty => 6

/-- The notice kind codes (R179). -/
def kindNumber (k : NoticeKind) : Nat :=
  match k with
  | .fault => 0
  | .lost => 1
  | .recordEnd => 2
  | .stale => 3
  | .late => 4
  | .grade => 5
  | .state => 6

/-- The station state codes (section 13.2). -/
def stateNumber (st : StationState) : Nat :=
  match st with
  | .listening => 1
  | .serving => 2
  | .draining => 3
  | .resting => 4
  | _ => 0

/-- The PROBE reply (section 13.2). -/
structure ProbeLayout (w : Word) (station : BitVec 4) (st : StationState) (grade pool free debt : Nat)
    (missed : Tbl 7 Bool) (active : Bool) : Prop where
  result : bits w 31 30 = 0
  state : bits w 29 27 = stateNumber st
  grade : bits w 26 25 = grade % 4
  pool : bits w 24 22 = pool % 8
  station : bits w 21 18 = station.toNat
  free : bits w 17 13 = free % 32
  debt : bits w 12 9 = debt % 16
  fault : bits w 8 8 = 0
  missed : ∀ k : Fin 7, k ≠ 0 → (bits w (8 - k.val) (8 - k.val) = 1 ↔ missed.get k = true)
  recorder : bits w 1 1 = 1 ↔ active = true
  last : bits w 0 0 = 1

/-! ### The station image (R173) -/

/-- A plan record without fault (R173). -/
def PlanSound (p : Plan) : Prop :=
  p.id ≤ 63 ∧ 1 ≤ p.sets.length ∧ p.sets.length ≤ 4 ∧ 1 ≤ p.steps.length ∧ p.steps.length ≤ 8
    ∧ p.loop < p.steps.length
    ∧ ∀ st ∈ p.steps, (∀ i, st.sound = some i → i < p.sets.length) ∧ st.duration ≠ some 0

/-- Two areas have no burst in common. -/
def areasApart (a b : Area) : Prop := ∀ x, ¬ (a.base ≤ x ∧ x < a.base + a.length ∧ b.base ≤ x ∧ x < b.base + b.length)

/-- The checks that R173 makes after the CRC, all passed, for the header bytes and records the loader has read. -/
structure ImageSound (l : Loader) : Prop where
  cls : byteAt l.header 12 = 1 ∨ byteAt l.header 12 = 2
  latency : byteAt l.header 13 = 1 ∨ byteAt l.header 13 = 2
  classB : byteAt l.header 12 = 2 → byteAt l.header 13 = 2
  plans : ∀ p ∈ l.plans, PlanSound p
  planIds : (l.plans.map Plan.id).Nodup
  entries : ∀ e ∈ l.entries, 64 ≤ e.id ∧ e.id ≤ 511 ∧ e.length ≠ 0
  entryIds : (l.entries.map RawEntry.id).Nodup
  area : l.pairs ≠ [] → 16 ≤ headerAreaSize l.header
  pairNumbers : ∀ p ∈ l.pairs, p.number ≤ 7
  pairsOnce : (l.pairs.map RecordPair.number).Nodup
  pairNamed : ∀ e ∈ l.entries, e.hasPair = true →
    (∃ p ∈ l.pairs, p.number = e.pairNumber) ∧ e.length ≤ headerAreaSize l.header
  pairNamedOnce : ((l.entries.filter RawEntry.hasPair).map RawEntry.pairNumber).Nodup
  areasInside : ∀ a ∈ checkedAreas (headerAreaSize l.header) l.entries l.pairs, a.base + a.length ≤ 4194304
  disjoint : (checkedAreas (headerAreaSize l.header) l.entries l.pairs).Pairwise areasApart

/-- The counts of a header are within the station's capacity (R173). -/
def countsSound (h : List Byte) : Prop :=
  byteAt h 14 ≤ 32 ∧ byteAt h 15 ≤ 128 ∧ byteAt h 16 ≤ 8 ∧ byteAt h 17 ≤ 4

/-- The load phase with the records read so far: RECORDS, and CHECK where none is left (R171, section 13.3). -/
def recordPhase (h : List Byte) (plans entries pairs : Nat) : LoadPhase :=
  if byteAt h 14 ≤ plans ∧ byteAt h 15 ≤ entries ∧ byteAt h 16 ≤ pairs then .check else .records

/-- The three bytes of a component at byte `k` (section 13.3, R180). -/
def componentAt (bs : List Byte) (k : Nat) (c : Option Component) : Prop :=
  (32768 ≤ wordAt bs k → c = none)
  ∧ (wordAt bs k < 32768 → ∃ x, c = some x ∧ x.increment.toNat = wordAt bs k ∧ x.attenuation = byteAt bs (k + 2) % 64)

/-- The four bytes of a cadence step at byte `k` (section 13.3, R180). -/
def stepAt (bs : List Byte) (k : Nat) (st : CadenceStep) : Prop :=
  st.sound = (if byteAt bs k = 255 then none else some (byteAt bs k))
  ∧ st.duration = (if 32768 ≤ wordAt bs (k + 1) then none else some (wordAt bs (k + 1) % 4096))
  ∧ st.cond =
    (match byteAt bs (k + 3) % 8 with
      | 1 => .noListeners
      | 2 => .listeners
      | 3 => .gradeHigh
      | 4 => .gradeLow
      | 5 => .firstPass
      | 6 => .laterPass
      | _ => .always)

/-- A plan record (section 13.3, R180). -/
def planRecord (bs : List Byte) (p : Plan) : Prop :=
  p.id = byteAt bs 0 ∧ p.sets.length = byteAt bs 1 ∧ p.steps.length = byteAt bs 2 ∧ p.loop = byteAt bs 3
  ∧ (∀ i set, p.sets[i]? = some set → componentAt bs (4 + 6 * i) set.c1 ∧ componentAt bs (7 + 6 * i) set.c2)
  ∧ ∀ i st, p.steps[i]? = some st → stepAt bs (4 + 6 * byteAt bs 1 + 4 * i) st

/-- A directory record (section 13.3, R180). -/
def entryRecord (bs : List Byte) (e : RawEntry) : Prop :=
  e.id = wordAt bs 0 ∧ (e.guarded = true ↔ byteAt bs 2 % 2 = 1) ∧ (e.hasPair = true ↔ byteAt bs 2 / 2 % 2 = 1)
  ∧ (e.hasShort = true ↔ byteAt bs 2 / 4 % 2 = 1) ∧ e.pairNumber = byteAt bs 3 ∧ e.shortId = wordAt bs 4
  ∧ e.base = 65536 * wordAt bs 6 + wordAt bs 8 ∧ e.length = wordAt bs 10 ∧ e.gap = wordAt bs 12 % 4096
  ∧ e.window = wordAt bs 14 % 4096
  ∧ e.trim = if byteAt bs 16 < 128 then (byteAt bs 16 : Int) else (byteAt bs 16 : Int) - 256

/-- The tables and settings built of an image, with the clamps and the absent references of R174 (R175). -/
structure TablesBuilt (l : Loader) (t : Tables) : Prop where
  plans : t.plans = l.plans
  pairs : t.pairs = l.pairs
  poolTarget : t.poolTarget = min 4 (byteAt l.header 2)
  quietPeriod : t.quietPeriod = max 512 (wordAt l.header 3)
  threshold : t.threshold = max 16 (min 4095 (wordAt l.header 6))
  endSilence : t.endSilence = max 1 (wordAt l.header 8)
  areaSize : t.areaSize = wordAt l.header 10
  congestion : (∃ p ∈ l.plans, p.id = byteAt l.header 5) → t.congestionPlan = some (byteAt l.header 5)
  noCongestion : (∀ p ∈ l.plans, p.id ≠ byteAt l.header 5) → t.congestionPlan = none
  standing : t.standing =
    ((((l.header.drop 18).take (byteAt l.header 17)).map BitVec.toNat).filter fun i =>
      l.plans.any fun p => p.id == i).eraseDups
  count : t.directory.length = l.entries.length
  entry : ∀ (i : Nat) (e : RawEntry) (d : Entry), l.entries[i]? = some e → t.directory[i]? = some d →
    d.id = e.id ∧ d.guarded = e.guarded ∧ d.gap = e.gap ∧ d.window = e.window ∧ d.area.length = e.length
      ∧ d.trim = max (-48) (min 24 e.trim)
      ∧ (e.hasPair = false → d.area.base = e.base ∧ d.alternate = none ∧ d.pair = none)
      ∧ (∀ p ∈ l.pairs, e.hasPair = true → p.number = e.pairNumber →
          d.area.base = p.first ∧ d.alternate = some p.second ∧ d.pair = some p.number)
      ∧ (e.hasShort = true → e.shortId ≠ e.id → (∃ x ∈ l.entries, x.id = e.shortId) → d.shortForm = some e.shortId)
      ∧ (e.hasShort = false ∨ e.shortId = e.id ∨ (∀ x ∈ l.entries, x.id ≠ e.shortId) → d.shortForm = none)

end Sys2Proof.Machine
end

