-- ==== Sys2Proof/WellFormed.lean ====
section
/-! DEFINITION. When a command is well formed: its numbers name things the station has. A command that is not
well formed names a channel, a bank, a row or an engine that does not exist, and its meaning faults by name; a
driven owner code or reply word that no station can drive is ill formed too, and reads as undriven. -/
namespace Sys2Proof

/-- The frame has channels 0 to 47. -/
def channelOk (c : Nat) : Bool := decide (c < 48)

/-- The store has banks 0 to 7 (R135). -/
def bankOk (b : Nat) : Bool := decide (b < 8)

/-- Each bank has rows 0 to 8191 (R135). -/
def rowOk (r : Nat) : Bool := decide (r < 8192)

/-- The station has engines 0 to 15 (R119). -/
def engineOk (e : Nat) : Bool := decide (e < 16)

/-- A driven owner code is a station number, 0 to 14 (R8). -/
def codesOk (ds : List OwnerCode) : Bool := ds.all (fun d => d != freeCode)

/-- A driven reply word never has result 11 (R179). -/
def wordsOk (ds : List Word) : Bool := ds.all (fun d => d.extractLsb' 30 2 != 3#2)

/-- The words a notice event names are words a station can drive. -/
def NoticeEvent.wellFormed : NoticeEvent → Bool
  | .whole others => wordsOk others
  | .drive => true
  | .outcome others => wordsOk others

/-- The command's operands name things that exist. -/
def Instr.wellFormed : Instr → Bool
  | .ownerPosition c others => channelOk c && codesOk others
  | .samplePosition c _ => channelOk c
  | .contentionSurrender c => channelOk c
  | .record (some others) => codesOk others
  | .noticePosition ev => ev.wellFormed
  | .bindExisting others => wordsOk others
  | .bindNew others => wordsOk others
  | .offerLost others => wordsOk others
  | .backOffExpiry c => channelOk c
  | .stepExpiry c => channelOk c
  | .toneQuietExpiry c => channelOk c
  | .cycleQuietExpiry c => channelOk c
  | .audioEnd c => channelOk c
  | .startBoundary c => channelOk c
  | .openRow b r => bankOk b && rowOk r
  | .fetch e => engineOk e
  | .fetchClose e => engineOk e
  | .close b => bankOk b
  | .pendingClose b => bankOk b
  | .pinReset _ | .framePulse _ | .pulseLoss | .localFrame | .storeStep | .orderPosition _ | .shelfReset
  | .join | .leave | .probe | .record none | .finishCommit | .finishDiscard | .serviceDrain | .serviceForce
  | .serviceReturn | .serviceNone | .gradeFall | .listeningComplete | .haltCountdownEnd | .put | .putClose
  | .renew | .setup | .selfRenewEntry | .selfRenewExit | .storeQuietEnd | .fetchDataArrival | .renewDebtRise
  | .captureStart | .endSilenceStop | .fullAreaStop | .flashByte _ => true

end Sys2Proof
end

