-- ==== Sys2Proof/Certificates/Slice0/Obligations.lean ====
section
/-! DEFINITION. The statements for the provers: what the rules of the manual say the commands and the station do. -/
open Sys2Proof Sys2Proof.Machine

/-! ### The queue, the resets and the clock -/

/-- A step carries out the command at the front of the queue on the queue's rest, which the command leaves as it is;
with no command waiting the station idles. The queue and the idling are the model's choice (log entry 13). -/
def Obligations.StepTakesTheFrontCommand : Prop :=
  (∀ (c : Instr) (s : State), step { s with pending := c :: s.pending } = exec c s)
    ∧ (∀ s : State, s.pending = [] → step s = .next s)
    ∧ ∀ (c : Instr) (s t : State), exec c s = .next t → t.pending = s.pending

/-- A command that names a channel, a bank, a row or an engine that no station has stops with a fault of that name,
and no other command stops at all: the model's choice (log entry 6). -/
def Obligations.OnlyAbsentNumbersStop : Prop :=
  (∀ (c : Instr) (s : State), c.wellFormed = true → ∃ t, exec c s = .next t)
    ∧ (∀ (n : Nat) (s : State), 48 ≤ n →
      (∀ others, exec (.ownerPosition n others) s = .fault .noSuchChannel)
      ∧ (∀ others, exec (.samplePosition n others) s = .fault .noSuchChannel)
      ∧ exec (.contentionSurrender n) s = .fault .noSuchChannel ∧ exec (.backOffExpiry n) s = .fault .noSuchChannel
      ∧ exec (.stepExpiry n) s = .fault .noSuchChannel ∧ exec (.toneQuietExpiry n) s = .fault .noSuchChannel
      ∧ exec (.cycleQuietExpiry n) s = .fault .noSuchChannel ∧ exec (.audioEnd n) s = .fault .noSuchChannel
      ∧ exec (.startBoundary n) s = .fault .noSuchChannel)
    ∧ (∀ (n row : Nat) (s : State), 8 ≤ n → row < 8192 → exec (.openRow n row) s = .fault .noSuchBank
      ∧ exec (.close n) s = .fault .noSuchBank ∧ exec (.pendingClose n) s = .fault .noSuchBank)
    ∧ (∀ (n row : Nat) (s : State), 8192 ≤ row → exec (.openRow n row) s = .fault .noSuchRow)
    ∧ ∀ (n : Nat) (s : State), 16 ≤ n →
      exec (.fetch n) s = .fault .noSuchEngine ∧ exec (.fetchClose n) s = .fault .noSuchEngine

/-- A pin reset returns every block to its reset values and samples the station number; the recent-order memory is set
to nothing, the tables are emptied, and the loader starts on the image where the pins read 0 to 14 (R33, R36, R42,
R119, R136, R157, R161, R171, R175). -/
def Obligations.PinResetReturnsEveryBlock : Prop :=
  ∀ (pins : BitVec 4) (s : State), ∃ t, exec (.pinReset pins) s = .next t ∧ t.pending = s.pending
    ∧ t.number = pins ∧ t.orders.state = (if pins = 15 then .halted else .loading)
    ∧ t.orders.listening = 0 ∧ t.orders.countdown = none ∧ t.orders.latch = none ∧ t.orders.list = []
    ∧ (∀ k, t.orders.missed.get k = false)
    ∧ t.orders.seen0 = .nothing ∧ t.orders.seen1 = .nothing ∧ t.orders.seen2 = .nothing
    ∧ t.port.frameCount = 15 ∧ t.port.timer = none ∧ t.port.breakCount = 0
    ∧ (∀ c, t.table.holding.get c = .none ∧ t.table.view.get c = none ∧ t.table.contention.get c = 0)
    ∧ t.table.pool = [] ∧ t.table.backOff = [] ∧ t.table.claimed = none ∧ t.table.stopped = false ∧ t.table.free = 48
    ∧ t.offer = none ∧ (∀ e, (t.engines.get e).bound = none ∧ (t.engines.get e).count = 0)
    ∧ t.store.state = .unset ∧ t.store.debt = 0 ∧ t.store.frames = 0 ∧ t.store.due = [] ∧ t.store.opens = []
    ∧ t.store.latency = none ∧ t.store.work = .none ∧ t.store.quiet = 0 ∧ t.store.step = 0 ∧ t.store.setup = none
    ∧ t.store.exitSignal = false
    ∧ (∀ b, t.store.banks.get b =
        { openRow := none, pendingClose := none, lastOpen := none, lastFetch := none, lastPut := none
          lastClose := none }) ∧ t.store.memory = []
    ∧ t.monitor.grade = 0 ∧ t.monitor.fall = 0 ∧ t.monitor.channelPressure = 0 ∧ t.monitor.enginePressure = 0
    ∧ t.monitor.storePressure = 0 ∧ t.recorder = none
    ∧ t.tables.plans = [] ∧ t.tables.directory = [] ∧ t.tables.pairs = [] ∧ t.tables.standing = []
    ∧ (pins ≠ 15 → t.loader.phase = .header ∧ t.loader.crc = 65535 ∧ t.loader.readPosition = 0 ∧ t.loader.header = []
        ∧ t.loader.partBytes = [] ∧ t.loader.plans = [] ∧ t.loader.entries = [] ∧ t.loader.pairs = []
        ∧ t.loader.hand = [])

/-- A pulse within two store steps of the last accepted one is disregarded; any other begins a frame. It is numbered by
the port's count, or 0 where the pulse is long, the pulse timer starts again, the positions are to come, the
recent-order memory is a frame older, and no offer is in hand (R1, R2, R3, R15, R55). A pulse in the middle of a store
step finds that step counted whole (R4); the station it finds is `u`. Before frame 0 comes the boundary. The channel
table fixes H, clears the contention counts, ages the back-off list, forms the target, releases the surplus, and
claims (R18, R20, R21, R23, R24, R29), a channel that ends at the boundary goes to POOL below the target of the frame and to
NONE otherwise (R26, R85); the tone unit starts a standing tone (R104), in a frame with a surplus before or after the
release, as a free value has it (log entry 4); the order unit counts the listening period, the halt countdown and the
work check (R43, R45, R51). A resuming pulse takes ISOLATED to LISTENING before the boundary, with the listening count
from 0; that this boundary is not counted is log entry 15, read from R49. The monitor forms the pressures and the grade
(R153, R154, R156); the store counts the frame (R144); the recorder starts its search (R163); every CYCLE channel's T and
quiet timer are stepped, and its audio end, its start and its quiet expiry come about as their own commands have them
(R74, R83); every PLAYING channel plays one position, with LATE for an underrun in the first burst (R78, R89, R121,
R122), with a run of underruns counted as it begins; and every TONE channel's quiet timer is stepped (R102), its cadence
is entered from STARTING, and its code is formed and its phases advance in every frame (R95, R96, R97, R115, R116). -/
def Obligations.FramePulseBeginsAFrame : Prop :=
  ∀ (long inStep : Bool) (s : State),
    (∀ n, s.port.timer = some n → n < 2 → exec (.framePulse ⟨long, inStep⟩) s = .next s)
    ∧ (pulseAccepted s → ∃ u t, exec (.framePulse ⟨long, inStep⟩) s = .next t
      ∧ (inStep = false → s.store.issued = none → u = s)
      ∧ (inStep = true ∨ s.store.issued ≠ none →
          u = { s with toStation := wholeStep s.toStation } ∧ u.store.step = s.store.step + 1 ∧ u.store.issued = none)
      ∧ u.pending = s.pending ∧ t.pending = s.pending ∧ t.number = s.number ∧ t.tables = u.tables ∧ t.loader = u.loader
      ∧ t.port.frameCount = (if long then 0 else (s.port.frameCount + 1) % 16) ∧ t.port.timer = some 0
      ∧ t.port.ownerNext = 0 ∧ t.port.sampleNext = 0 ∧ t.port.orderSeen = false ∧ t.port.replyOut = none
      ∧ t.port.breakCount = s.port.breakCount ∧ t.offer = none ∧ t.table.view = s.table.view
      ∧ t.table.stopped = s.table.stopped ∧ (boundaryPulse long u ↔ boundaryPulse long s)
      ∧ (boundaryPulse long s → t.recorder = u.recorder.map fun r => { r with started := true })
      ∧ (¬ boundaryPulse long s → t.recorder = u.recorder)
      ∧ TableFrame long u t ∧ OrderFrame long u t ∧ MonitorFrame long u t ∧ StoreFrame u t
      ∧ (∀ c r v, u.table.holding.get c = .cycle r → c ∉ u.table.pool →
          (∀ d x, d ≠ c → u.table.holding.get d = .cycle x → x.engine ≠ r.engine) → cycleAtBoundary long c r u v →
          CycleFrame long c r u v t)
      ∧ ∀ c r, u.table.holding.get c = .tone r → c ∉ u.table.pool → ToneFrame long c r u t)

/-- The expiry of the pulse timer: the port lets the lanes go, every channel is dropped, what the order unit holds is
emptied, and the station is ISOLATED, or stays as R49 says; in the halt countdown it is HALTED (R5, R32, R49, R51,
R157). -/
def Obligations.PulseLossIsolates : Prop :=
  ∀ (s : State) (n : Nat), s.port.timer = some n → 8 ≤ n →
    ∃ t, exec .pulseLoss s = .next t ∧ t.pending = s.pending
      ∧ t.port.frameCount = 15 ∧ t.port.timer = none ∧ t.port.breakCount = 0
      ∧ t.orders.state = (if s.orders.countdown.isSome then .halted
          else if s.orders.state = .serving ∨ s.orders.state = .draining ∨ s.orders.state = .listening then .isolated
          else s.orders.state)
      ∧ t.orders.list = [] ∧ t.orders.latch = none ∧ (∀ k, t.orders.missed.get k = false)
      ∧ t.orders.seen0 = .nothing ∧ t.orders.seen1 = .nothing ∧ t.orders.seen2 = .nothing
      ∧ (∀ c, t.table.holding.get c = .none ∧ t.table.view.get c = none ∧ t.table.contention.get c = 0)
      ∧ t.table.pool = [] ∧ t.table.backOff = [] ∧ t.table.claimed = none ∧ t.table.stopped = s.table.stopped
      ∧ t.recorder = none ∧ t.offer = none ∧ (∀ e, (t.engines.get e).bound = none)
      ∧ (s.orders.state ≠ .halted → t.monitor.grade = 0 ∧ t.monitor.fall = 0)
      ∧ t.number = s.number ∧ t.tables = s.tables ∧ t.loader = s.loader

/-- A shelf reset drops every channel, empties what the order unit holds and takes a working station to LISTENING; in
the halt countdown it is HALTED (R16, R32, R50, R51, R157). -/
def Obligations.ShelfResetDropsEverything : Prop :=
  ∀ s : State, 16 ≤ s.port.breakCount →
    ∃ t, exec .shelfReset s = .next t ∧ t.pending = s.pending ∧ t.port = { s.port with breakCount := 0 }
      ∧ t.orders.state = (if s.orders.countdown.isSome then .halted
          else if s.orders.state = .serving ∨ s.orders.state = .draining ∨ s.orders.state = .listening then .listening
          else s.orders.state)
      ∧ t.orders.list = [] ∧ t.orders.latch = none ∧ (∀ k, t.orders.missed.get k = false)
      ∧ (∀ c, t.table.holding.get c = .none ∧ t.table.contention.get c = 0)
      ∧ t.table.view = s.table.view ∧ t.table.free = s.table.free ∧ t.table.pool = [] ∧ t.table.backOff = []
      ∧ t.table.claimed = none ∧ t.table.stopped = s.table.stopped ∧ t.recorder = none ∧ t.offer = none
      ∧ (∀ e, (t.engines.get e).bound = none)
      ∧ (s.orders.state ≠ .halted → t.monitor.grade = 0 ∧ t.monitor.fall = 0)
      ∧ t.number = s.number ∧ t.tables = s.tables ∧ t.loader = s.loader

/-- A local frame begins once its predecessor has had four store steps, and the store counts it (R6, R144). The eighth
counted raises the renew debt, which at 8 forces a renew unless a self-renew entry is in hand (R144, R146, R149). -/
def Obligations.LocalFrameBegins : Prop :=
  ∀ s : State, s.port.timer = none → 4 ≤ s.port.localSteps →
    (s.store.state.counts = true → s.store.frames < 7 →
      exec .localFrame s = .next { s with
        port := { s.port with localSteps := 0 }, store := { s.store with frames := s.store.frames + 1 } })
    ∧ (s.store.state.counts = true → 7 ≤ s.store.frames →
      exec .localFrame s = .next { s with
        port := { s.port with localSteps := 0 }
        store := { s.store with
          frames := 0, debt := s.store.debt + 1
          work := if 8 ≤ s.store.debt + 1 ∧ s.store.work ≠ .entry then .forced else s.store.work } })
    ∧ (s.store.state.counts = false → exec .localFrame s = .next { s with port := { s.port with localSteps := 0 } })

/-- Every store step is one step of the store's count, in every state of the station (R4, R136); the eighth since the
last accepted pulse ends in the pulse loss, as PULSE_LOSS has it (R5). The lines show the command decided and the
bursts read (R152). A command decided keeps the states, the distances, the open window and the data path (R138, R139,
R140, R141). Where requesters are served, it is the next command of the first, in order of rank, whose next command is
legal: by slack, then the recorder, then the engines by number; the next command of a request is that of R142's table
(R132, R142, R143). In FORCED and ENTRY work, and at a step with no requester and the debt above -2, the command is the
RENEW or the SELF-RENEW entry where every bank is closed, and otherwise the CLOSE of the lowest-numbered bank that can be
closed (R143, R146, R147, R149). That the requesters are ranked, and the command judged, after the wraps due at the step
is the model's choice (log entry 39): R126 and R132 do not say. -/
def Obligations.StoreStepIsCounted : Prop :=
  ∀ s : State,
    (∃ t, exec .storeStep s = .next t ∧ t.pending = s.pending ∧ t.store.step = s.store.step + 1
      ∧ t.store.issued = none ∧ t.number = s.number)
    ∧ (∀ u : State, u = { s with toStation := wholeStep s.toStation } →
        (s.port.timer = none → exec .storeStep s = .next u ∧ u.port.timer = none)
        ∧ (∀ n, s.port.timer = some n → u.port.timer = some (n + 1)
            ∧ (n + 1 < 8 → exec .storeStep s = .next u) ∧ (8 ≤ n + 1 → exec .storeStep s = exec .pulseLoss u))
        ∧ (∀ d ∈ s.store.due, d.step ≤ s.store.step → d.codes ∈ u.store.shown.read)
        ∧ ∀ cmd, decidedNow s.toStation = some cmd →
            u.store.shown.command = some (busCommand (wrapEngines (prepareStep s.toStation)) cmd))
    ∧ ∀ p : Station, p = wrapEngines (prepareStep s.toStation) → s.store.issued = none →
        (∀ cmd, decidedNow s.toStation = some cmd → keepsTheRules p cmd)
        ∧ (p.store.state = .ready → p.store.work = .none ∨ p.store.work = .early → (∃ q, asks p q) →
            (wholeStep s.toStation).store.work = .none
            ∧ (∀ cmd, decidedNow s.toStation = some cmd → ∃ q, asks p q ∧ NextCommand p q cmd
              ∧ ∀ x, asks p x → ranksBefore x q → ∀ c, NextCommand p x c → ¬ keepsTheRules p c)
            ∧ (decidedNow s.toStation = none → ∀ x, asks p x → ∀ c, NextCommand p x c → ¬ keepsTheRules p c))
        ∧ (p.store.state = .ready → RenewStep p (decidedNow s.toStation) (wholeStep s.toStation).store.work)

/-- A store step at which nothing falls due, no requester asks and the store has no command of its own moves the clock
alone, with the pulse present or absent: in UNSET with no latency handed over, in SELF-RENEW with no exit signalled, in
STOPPED, and in READY with the debt at -2 (R4, R6, R143). In SETTING, RENEWING and WAKING it also takes one quiet step,
and the last of them leaves the store READY (R138). -/
def Obligations.IdleStoreStepMovesTheClock : Prop :=
  ∀ s : State, NothingDue s → (s.port.timer = none → s.port.localSteps < 4) → (∀ n, s.port.timer = some n → n < 7) →
    ∀ port, port = { s.port with
      localSteps := if s.port.timer = none then s.port.localSteps + 1 else s.port.localSteps
      timer := s.port.timer.map fun n => n + 1 } →
    (storeIdles s.store → exec .storeStep s = .next { s with
      port := port
      store := { s.store with step := s.store.step + 1, lines := StepLines.idle, shown := s.store.lines } })
    ∧ (s.store.state = .setting ∨ s.store.state = .renewing ∨ s.store.state = .waking →
      exec .storeStep s = .next { s with
        port := port
        store := { s.store with
          step := s.store.step + 1, lines := StepLines.idle, shown := s.store.lines, quiet := s.store.quiet - 1
          state := if s.store.quiet ≤ 1 then .ready else s.store.state } })

/-! ### The owner lane and the sample lane -/

/-- Of the codes and words driven in an open-drain position every station reads the lowest, all ones where nobody
drives, and a station reads its own back exactly where no other drove a lower one (R7, R8, R14). -/
def Obligations.LaneReadsTheLowest : Prop :=
  (∀ w : Nat, laneWord ([] : List (BitVec w)) = BitVec.allOnes w)
    ∧ (∀ (w : Nat) (d : BitVec w) (ds : List (BitVec w)),
        laneWord (d :: ds) ∈ d :: ds ∧ ∀ x ∈ d :: ds, (laneWord (d :: ds)).toNat ≤ x.toNat)
    ∧ ∀ (w : Nat) (own : BitVec w) (others : List (BitVec w)),
        wins own others = true ↔ ∀ x ∈ others, own.toNat ≤ x.toNat

/-- An owner position is read into the view, and nothing else comes of it, where the channel is neither held nor
claimed and another's code is read, and where it is held and the station's own code reads back (R9, R17, R19). -/
def Obligations.OwnerPositionFillsTheView : Prop :=
  ∀ (c : Channel) (others : List OwnerCode) (s : State), s.port.timer ≠ none → s.port.ownerNext ≤ c.val →
    s.table.claimed ≠ some c →
    (s.table.holding.get c = .none → laneWord others ≠ s.number →
      exec (.ownerPosition c.val others) s = .next { s with
        port := { s.port with ownerNext := c.val + 1, ownerOut := s.port.ownerOut.put c none }
        table := { s.table with view := s.table.view.put c (some (laneWord others)) } })
    ∧ (s.table.holding.get c ≠ .none → s.table.stopped = false → wins s.number others = true →
      exec (.ownerPosition c.val others) s = .next { s with
        port := { s.port with ownerNext := c.val + 1, ownerOut := s.port.ownerOut.put c (some s.number) }
        table := { s.table with view := s.table.view.put c (some s.number) } })

/-- A claim is settled at its owner position: won into the newest place of the pool, or lost into the back-off list
with 16 frames left (R22). At most 4 channels are in POOL (R34): where a won claim finds 4, the newest of them, which a
return of the frame has put beyond the target, is released at once. That it is released by R26's last words, and not by
R24 a frame later, is read from R22, R26 and R34 together (log entry 36). -/
def Obligations.ClaimIsSettled : Prop :=
  ∀ (c : Channel) (others : List OwnerCode) (s : State), s.port.timer ≠ none → s.port.ownerNext ≤ c.val →
    s.table.claimed = some c → s.table.stopped = false →
    ∃ t, exec (.ownerPosition c.val others) s = .next t
      ∧ t = { s with port := t.port, table := t.table }
      ∧ (wins s.number others = true →
          t.table.view.get c = some s.number ∧ t.table.backOff = s.table.backOff
            ∧ t.table.holding.get c = .pool ∧ t.table.contention.get c = 0
            ∧ (s.table.pool.length < 4 → t.table.pool = s.table.pool ++ [c]
                ∧ ∀ d, d ≠ c → t.table.holding.get d = s.table.holding.get d)
            ∧ ∀ rest x, s.table.pool = rest ++ [x] → 4 ≤ s.table.pool.length →
                t.table.pool = rest ++ [c] ∧ (x ≠ c → t.table.holding.get x = .none)
                ∧ ∀ d, d ≠ c → d ≠ x → t.table.holding.get d = s.table.holding.get d)
      ∧ (wins s.number others = false →
          t.table.holding = s.table.holding ∧ t.table.pool = s.table.pool
            ∧ t.table.backOff = s.table.backOff ++ [{ channel := c, left := 16 }])
      ∧ ∀ d, d ≠ c → t.table.view.get d = s.table.view.get d

/-- A held channel that reads another code is lost and goes to NONE. Where it was in service, what it carried is torn
down and LOST is posted with the code read, and meets a notice that waits by the table of R52: it is latched, it takes
the place of one of its own or a higher kind code, which is then missed, or it is missed itself. A POOL channel gives up
its place in the pool, and no notice is posted (R28, R52, R86, R107, R169). -/
def Obligations.LostChannelIsTornDown : Prop :=
  (∀ (c : Channel) (others : List OwnerCode) (s : State), s.port.timer ≠ none → s.port.ownerNext ≤ c.val →
    s.table.claimed ≠ some c → s.table.stopped = false → (s.table.holding.get c).inService = true →
    wins s.number others = false → s.orders.state.answers = true →
    ∃ t, exec (.ownerPosition c.val others) s = .next t ∧ t.table.holding.get c = .none
      ∧ t = { s with
          port := t.port, table := t.table, orders := t.orders, formed := t.formed, engines := t.engines,
          recorder := t.recorder }
      ∧ Taken { kind := .lost, channel := some c, detail := (laneWord (s.number :: others)).toNat } s.orders t.orders
      ∧ (∀ r, s.table.holding.get c = .cycle r → engineAt t.toStation r.engine = none)
      ∧ (s.table.holding.get c = .record → t.recorder = none)
      ∧ (∀ d, d ≠ c → t.table.holding.get d = s.table.holding.get d)
      ∧ t.table.pool = s.table.pool ∧ t.table.backOff = s.table.backOff ∧ t.store = s.store ∧ t.tables = s.tables)
  ∧ ∀ (c : Channel) (others : List OwnerCode) (s : State), s.port.timer ≠ none → s.port.ownerNext ≤ c.val →
    s.table.claimed ≠ some c → s.table.stopped = false → s.table.holding.get c = .pool →
    wins s.number others = false →
    ∃ t, exec (.ownerPosition c.val others) s = .next t ∧ t.table.holding.get c = .none
      ∧ t = { s with port := t.port, table := t.table, formed := t.formed }
      ∧ t.table.pool = s.table.pool.erase c ∧ t.table.view.get c = some (laneWord (s.number :: others))
      ∧ (∀ d, d ≠ c → t.table.holding.get d = s.table.holding.get d) ∧ t.table.backOff = s.table.backOff

/-- The station's own number read on a channel it neither holds nor claims stops it: every channel is dropped, the
halt countdown starts at 16, the order list is emptied and FAULT is posted with detail 1 (R30, R51). -/
def Obligations.DuplicateIdentityStopsTheStation : Prop :=
  ∀ (c : Channel) (others : List OwnerCode) (s : State), s.port.timer ≠ none → s.port.ownerNext ≤ c.val →
    s.table.holding.get c = .none → s.table.claimed ≠ some c → s.table.stopped = false →
    s.orders.state.answers = true → laneWord others = s.number →
    ∃ t, exec (.ownerPosition c.val others) s = .next t ∧ t.table.stopped = true
      ∧ t = { s with
          port := t.port, table := t.table, orders := t.orders, formed := t.formed, engines := t.engines,
          recorder := t.recorder }
      ∧ (∀ d, t.table.holding.get d = .none) ∧ t.table.pool = [] ∧ t.recorder = none
      ∧ (∀ e, (t.engines.get e).bound = none) ∧ t.orders.countdown = some 16 ∧ t.orders.list = []
      ∧ t.orders.state = s.orders.state
      ∧ t.orders.latch = some { kind := .fault, channel := some c, detail := 1 }
      ∧ t.store = s.store ∧ t.tables = s.tables

/-- The sample position of a channel that the station does not sound, and does not record from, passes without effect
on anything but the port (R10, R12). Where it is the recorder's input channel, the recorder takes the code read and
its verdict. In SEARCHING, once the search has started, a loud code joins the loud run and a quiet one empties it, and
the fourth begins the capture as CAPTURE_START has it (R117, R163). In CAPTURING the code is placed, or dropped with
the damage marked where the ring holds 32, and the two stops come about as their own commands have them (R164, R166).
In HELD no code is taken. That a loud code dropped for want of room leaves the quiet run as it stands is the model's
choice (log entry 16): R164 clears it at a loud code placed, while R161 and R166 speak of the last loud frame. -/
def Obligations.UndrivenSamplePositionPasses : Prop :=
  ∀ (c : Channel) (others : Code) (s v : State), s.port.timer ≠ none → s.port.sampleNext ≤ c.val →
    c.val < s.port.ownerNext → (s.table.holding.get c).sounds = false →
    v = { s with port := { s.port with sampleNext := c.val + 1, sampleOut := s.port.sampleOut.put c none } } →
    (hears s.toStation c = false → exec (.samplePosition c.val others) s = .next { s with
      port := { s.port with sampleNext := c.val + 1, sampleOut := s.port.sampleOut.put c none } })
    ∧ ∀ r, s.recorder = some r → r.input = some c →
      (r.phase = .searching → r.started = false → exec (.samplePosition c.val others) s = .next v)
      ∧ (r.phase = .held → exec (.samplePosition c.val others) s = .next v)
      ∧ (r.phase = .searching → r.started = true → magnitude others < s.tables.threshold →
          exec (.samplePosition c.val others) s = .next { v with recorder := some { r with loudRun := [] } })
      ∧ (r.phase = .searching → r.started = true → s.tables.threshold ≤ magnitude others → r.loudRun.length < 3 →
          exec (.samplePosition c.val others) s = .next
            { v with recorder := some { r with loudRun := r.loudRun ++ [others] } })
      ∧ (r.phase = .searching → r.started = true → s.tables.threshold ≤ magnitude others → r.loudRun.length = 3 →
          exec (.samplePosition c.val others) s =
              exec .captureStart { v with recorder := some { r with loudRun := r.loudRun ++ [others] } }
            ∧ ∃ t q, exec (.samplePosition c.val others) s = .next t ∧ t.recorder = some q ∧ q.phase = .capturing
              ∧ q.ring = r.loudRun ++ [others] ∧ q.placed = 4)
      ∧ (r.phase = .capturing → ∀ q, q = { r with
            ring := if r.ring.length < 32 then r.ring ++ [others] else r.ring
            placed := if r.ring.length < 32 then r.placed + 1 else r.placed
            damaged := if r.ring.length < 32 then r.damaged else true
            lastLoud := if s.tables.threshold ≤ magnitude others ∧ r.ring.length < 32 then r.placed / 16 else r.lastLoud
            quietRun :=
              if magnitude others < s.tables.threshold then r.quietRun + 1
              else if r.ring.length < 32 then 0 else r.quietRun } →
          (q.quietRun < 16 * s.tables.endSilence → q.placed < 16 * s.tables.areaSize →
            exec (.samplePosition c.val others) s = .next { v with recorder := some q })
          ∧ (16 * s.tables.endSilence ≤ q.quietRun →
            exec (.samplePosition c.val others) s = exec .endSilenceStop { v with recorder := some q })
          ∧ (q.quietRun < 16 * s.tables.endSilence → 16 * s.tables.areaSize ≤ q.placed →
            exec (.samplePosition c.val others) s = exec .fullAreaStop { v with recorder := some q }))

/-- On a channel that the station sounds, a TONE channel or a PLAYING CYCLE one, a code that reads back differently is
one contention event, and one that reads back as driven is none; the fourth of a superframe surrenders the channel with
LOST, detail 15, which meets a notice that waits by the table of R52 (R10, R11, R29, R52). -/
def Obligations.ContentionIsCounted : Prop :=
  (∀ (c : Channel) (s : State), 4 ≤ s.table.contention.get c →
    ((s.table.holding.get c).isTone = true ∨ (s.table.holding.get c).isCycle = true) →
    s.orders.state.answers = true →
    ∃ t, exec (.contentionSurrender c.val) s = .next t ∧ t.table.holding.get c = .none
      ∧ t = { s with table := t.table, orders := t.orders, formed := t.formed, engines := t.engines }
      ∧ Taken { kind := .lost, channel := some c, detail := 15 } s.orders t.orders
      ∧ (∀ d, d ≠ c → t.table.holding.get d = s.table.holding.get d)
      ∧ t.table.backOff = s.table.backOff ∧ t.store = s.store ∧ t.port = s.port)
  ∧ ∀ (c : Channel) (k others : Code) (s : State), s.port.timer ≠ none → s.port.sampleNext ≤ c.val →
    s.table.stopped = false → (s.table.holding.get c).sounds = true → ownerHeld s.toStation c = true →
    s.formed.get c = some k → hears s.toStation c = false → s.table.contention.get c < 4 →
    ∃ t, exec (.samplePosition c.val others) s = .next t ∧ t.port.sampleOut.get c = some k
      ∧ (k &&& others = k →
          t.table = s.table ∧ t.orders = s.orders)
      ∧ (k &&& others ≠ k → s.table.contention.get c < 3 →
          t.table = { s.table with contention := s.table.contention.put c (s.table.contention.get c + 1) }
            ∧ t.orders = s.orders)
      ∧ (k &&& others ≠ k → s.table.contention.get c = 3 →
          t.table.holding.get c = .none
            ∧ (∀ r, s.table.holding.get c = .cycle r → engineAt t.toStation r.engine = none)
            ∧ (s.orders.state.answers = true → s.orders.latch = none →
                t.orders.latch = some { kind := .lost, channel := some c, detail := 15 }))

/-- A back-off entry with no frames left leaves the list, and nothing else changes (R23). -/
def Obligations.BackOffEntryExpires : Prop :=
  ∀ (c : Channel) (s : State), { channel := c, left := 0 } ∈ s.table.backOff →
    exec (.backOffExpiry c.val) s = .next { s with
      table := { s.table with backOff := s.table.backOff.filter fun b => b.channel != c } }

/-! ### The order lane -/

/-- The order position takes the word read. A word other than all zeros is classed for the recent-order memory, an
order joins the list at its newest end where the station takes orders, and the break count is cleared (R13, R16, R35).
A word of all zeros is idle and raises the break count, and the sixteenth in a row is the shelf reset, as SHELF_RESET
has it, before the word is noted (R16). The fields of an order are read at the bits of section 13.1, an idle word for its
kind alone, and an idle word or a LEAVE marks a notice position (R15, R178). -/
def Obligations.OrderPositionTakesTheWord : Prop :=
  (∀ (word : Word) (s : State), s.port.timer ≠ none → s.port.orderSeen = false → word ≠ 0 →
    (∀ o, Machine.orderOf word = some o → s.orders.state.answers = true → s.orders.countdown = none →
      exec (.orderPosition word) s = .next { s with
        port := { s.port with orderSeen := true, breakCount := 0 }
        orders := { s.orders with seen0 := seenOf word, list := s.orders.list ++ [{ order := o, age := 0 }] } })
    ∧ (Machine.orderOf word = none ∨ s.orders.state.answers = false ∨ s.orders.countdown ≠ none →
      exec (.orderPosition word) s = .next { s with
        port := { s.port with orderSeen := true, breakCount := 0 }
        orders := { s.orders with seen0 := seenOf word } }))
  ∧ (∀ s : State, s.port.timer ≠ none → s.port.orderSeen = false →
    (s.port.breakCount + 1 < 16 → exec (.orderPosition 0) s = .next { s with
      port := { s.port with orderSeen := true, breakCount := s.port.breakCount + 1 }
      orders := { s.orders with seen0 := .noticeMark } })
    ∧ (16 ≤ s.port.breakCount + 1 → ∃ v,
        exec .shelfReset { s with port := { s.port with breakCount := s.port.breakCount + 1 } } = .next v
        ∧ v.port.breakCount = 0
        ∧ exec (.orderPosition 0) s = .next { v with
            port := { v.port with orderSeen := true }, orders := { v.orders with seen0 := .noticeMark } }))
  ∧ ∀ w : Word, (isIdle w → Machine.orderOf w = none ∧ seenOf w = .noticeMark)
    ∧ (¬ isIdle w → ∃ o, Machine.orderOf w = some o ∧ OrderLayout w o
        ∧ seenOf w = if bits w 31 28 = 2 then .noticeMark else .order)

/-- A due JOIN is weighed in SERVING alone: the offer found is taken in hand and its word driven; with none, and in
LISTENING, DRAINING and RESTING, nothing is driven (R36, R39, R55, R66). The bid word has its fields at the bits of
section 13.2 (R179). -/
def Obligations.JoinIsWeighedInServing : Prop :=
  (∀ (o : Offer) (station : BitVec 4), hasFields (o.word station) (if o.degraded then 1 else 0) (o.bid % 256) station
    o.channel.val (o.delay % 4096))
  ∧ ∀ (s : State) (o : Order) (signal : Nat) (mode : Mode) (flag : Bool), dueOrder s.toStation = some o →
    o.body = .join signal mode flag →
    (∀ x, s.orders.state = .serving →
      weighJoin (takeOrder s.toStation) o.cls o.tag signal mode flag = some x →
      exec .join s = .next { s with
        orders := { s.orders with list := s.orders.list.eraseP Waiting.due }
        offer := some x, port := { s.port with replyOut := some (x.word s.number) } })
    ∧ (s.orders.state ≠ .serving ∨ weighJoin (takeOrder s.toStation) o.cls o.tag signal mode flag = none →
      exec .join s = .next { s with orders := { s.orders with list := s.orders.list.eraseP Waiting.due } })

/-- A TONE channel running the plan asked for is a candidate that the caller joins at once, with delay 0, whatever the
JOIN's mode and whether or not the channel is standing (R57), while the channel can take a caller (R61). -/
def Obligations.ToneChannelIsACandidate : Prop :=
  ∀ (s : Station) (a : Ask) (plan : Nat) (c : Channel) (r : ToneRecord), plan < 64 →
    s.table.holding.get c = .tone r → r.plan = plan → r.listeners < 255 →
    ∃ o, candidate s a plan c = some o ∧ o.channel = c ∧ o.wayIn = .listener ∧ o.delay = 0 ∧ o.isNew = false

/-- The effective join window is W, and at grade 3 four times W, at most 4095, with the W of the entry whose id the
channel's record carries (R60); a caller is offered a wait only within it, within 4095 and with fewer than 8 records
pending, and joining at once is not tested (R59). A caller in mode ANY joins a PLAYING or GAP channel at once, with delay
0, and every other caller waits for the next cycle start, with delay T (R58). -/
def Obligations.WaitIsOfferedWithinTheWindow : Prop :=
  ∀ (s : Station) (a : Ask) (id : Nat) (c : Channel) (r : CycleRecord) (e : Entry), 64 ≤ id → s.monitor.grade ≤ 3 →
    s.table.holding.get c = .cycle r → r.announcement = id → findEntry s id = some e →
    r.listeners + r.waiting.length < 255 →
    (a.mode = .any → r.substate = .playing ∨ r.substate = .gap →
      ∃ o, candidate s a id c = some o ∧ o.channel = c ∧ o.signal = id ∧ o.wayIn = .listener ∧ o.delay = 0)
    ∧ (a.mode = .start ∨ r.substate = .priming →
        ((candidate s a id c).isSome = true ↔
          r.t ≤ (if s.monitor.grade = 3 then min 4095 (4 * e.window) else e.window) ∧ r.t ≤ 4095 ∧ r.waiting.length < 8)
        ∧ ∀ o, candidate s a id c = some o → o.channel = c ∧ o.signal = id ∧ o.wayIn = .pending ∧ o.delay = r.t)

/-- The NEW tone option exists exactly where its four conditions hold, and names the oldest pool channel with delay 0
(R62). -/
def Obligations.NewToneOptionExists : Prop :=
  ∀ (s : Station) (a : Ask) (plan : Nat), plan < 64 →
    ((newOption s a plan).isSome = true ↔
      (∃ p ∈ s.tables.plans, p.id = plan) ∧ s.table.pool ≠ []
        ∧ (∃ g : Fin 8, ∀ c, (s.table.holding.get c).usesGenerator g = false)
        ∧ (s.monitor.grade < 3 ∨ s.tables.congestionPlan = some plan))
    ∧ ∀ o, newOption s a plan = some o →
        s.table.pool.head? = some o.channel ∧ o.delay = 0 ∧ o.wayIn = .newTone ∧ o.signal = plan

/-- The NEW announcement option exists exactly where its four conditions hold, and names the oldest pool channel with
delay 2 (R63). -/
def Obligations.NewAnnouncementOptionExists : Prop :=
  ∀ (s : Station) (a : Ask) (id : Nat), 64 ≤ id →
    ((newOption s a id).isSome = true ↔
      (∃ e ∈ s.tables.directory, e.id = id) ∧ s.table.pool ≠ [] ∧ (∃ e, (s.engines.get e).bound = none)
        ∧ s.monitor.grade < 3)
    ∧ ∀ o, newOption s a id = some o →
        s.table.pool.head? = some o.channel ∧ o.delay = 2 ∧ o.wayIn = .newCycle ∧ o.signal = id

/-- An option bids 32 times the grade and the smaller of 31 and its delay div 32, and a NEW one 128 more; the option
weighed best bids no more than any other, and has the lower channel at an equal bid (R65). An EXISTING option bids below
a NEW one at every grade and every delay, so a station with a qualifying channel always offers that channel, the one
with the smallest delay (R61, R63, R65). -/
def Obligations.ExistingOptionIsPreferred : Prop :=
  (∀ (s : Station) (a : Ask) (signal : Nat) (c : Channel) (x : Offer), s.monitor.grade ≤ 3 →
    candidate s a signal c = some x →
    ∃ o, weighSignal s a signal = some o ∧ o.isNew = false ∧ existingOption s a signal = some o ∧ o.delay ≤ x.delay
      ∧ (o.delay = x.delay → o.channel ≤ x.channel))
  ∧ (∀ (s : Station) (a : Ask) (signal : Nat) (o : Offer),
    (∀ c, candidate s a signal c = some o →
        o.bid = 32 * s.monitor.grade + min 31 (o.delay / 32) ∧ o.degraded = a.degraded)
      ∧ (newOption s a signal = some o →
        o.bid = 128 + 32 * s.monitor.grade + min 31 (o.delay / 32) ∧ o.degraded = a.degraded))
  ∧ ∀ (s : Station) (a : Ask) (signal : Nat) (o x : Offer), weighSignal s a signal = some o →
    existingOption s a signal = some x ∨ newOption s a signal = some x →
    o.bid < x.bid ∨ (o.bid = x.bid ∧ o.channel ≤ x.channel)

/-- An accepted option found is the offer. A substitute is weighed only where there is none, at grade 2 or 3, and where
the no-substitute flag does not forbid it; a class-0 order cannot forbid it, so that its weighing is the same with the
flag set and clear. The short form of the announcement asked for comes first, and what is found for it is the offer
whatever the congestion plan would bid; the congestion plan is weighed where the signal is no announcement of the
directory, or has no short form, or nothing is found for it; with no congestion plan there is no offer then (R56,
R64). -/
def Obligations.SubstituteOnlyUnderCongestion : Prop :=
  (∀ (s : Station) (cls : Nat) (tag : BitVec 8) (signal : Nat) (mode : Mode) (flag : Bool) (o : Offer),
    weighJoin s cls tag signal mode flag = some o → o.degraded = true →
    2 ≤ s.monitor.grade ∧ (flag = true → cls = 0)
      ∧ weighSignal s { mode := mode, tag := tag, degraded := false } signal = none)
  ∧ (∀ (s : Station) (tag : BitVec 8) (signal : Nat) (mode : Mode),
    weighJoin s 0 tag signal mode true = weighJoin s 0 tag signal mode false)
  ∧ ∀ (s : Station) (cls : Nat) (tag : BitVec 8) (signal : Nat) (mode : Mode) (flag : Bool) (given under : Ask),
    given = { mode := mode, tag := tag, degraded := false } → under = { mode := mode, tag := tag, degraded := true } →
    (∀ o, weighSignal s given signal = some o → weighJoin s cls tag signal mode flag = some o)
    ∧ (weighSignal s given signal = none →
      (s.monitor.grade < 2 ∨ (flag = true ∧ cls ≠ 0) → weighJoin s cls tag signal mode flag = none)
      ∧ (2 ≤ s.monitor.grade → flag = false ∨ cls = 0 →
        (∀ e short o, 64 ≤ signal → findEntry s signal = some e → e.shortForm = some short →
          weighSignal s under short = some o → weighJoin s cls tag signal mode flag = some o)
        ∧ ((∀ e short, 64 ≤ signal → findEntry s signal = some e → e.shortForm = some short →
            weighSignal s under short = none) →
          (s.tables.congestionPlan = none → weighJoin s cls tag signal mode flag = none)
          ∧ ∀ plan, s.tables.congestionPlan = some plan →
              weighJoin s cls tag signal mode flag = weighSignal s under plan)))

/-- A LEAVE on a TONE channel takes one listener off and reloads the quiet timer, while others stay or the channel is
standing; at no listeners it is ignored (R36, R40, R101). A LEAVE for a channel in POOL or RECORD, for one that is not
held, and for a channel number 48 to 63 matches nothing and is dropped (R40). -/
def Obligations.LeaveTakesAToneListenerOff : Prop :=
  (∀ (s : State) (o : Order) (n : Nat), dueOrder s.toStation = some o → o.body = .leave n →
    (48 ≤ n ∨ ∃ c : Channel, c.val = n ∧ (s.table.holding.get c = .none ∨ s.table.holding.get c = .pool
      ∨ s.table.holding.get c = .record)) →
    exec .leave s = .next { s with orders := { s.orders with list := s.orders.list.eraseP Waiting.due } })
  ∧ ∀ (s : State) (o : Order) (c : Channel) (r : ToneRecord), dueOrder s.toStation = some o → o.body = .leave c.val →
    s.table.holding.get c = .tone r →
    (r.listeners = 0 →
      exec .leave s = .next { s with orders := { s.orders with list := s.orders.list.eraseP Waiting.due } })
    ∧ (2 ≤ r.listeners ∨ (r.listeners = 1 ∧ r.standing = true) →
      exec .leave s = .next { s with
        orders := { s.orders with list := s.orders.list.eraseP Waiting.due }
        table := { s.table with
          holding := s.table.holding.put c
            (.tone { r with listeners := r.listeners - 1, quiet := s.tables.quietPeriod }) } })
    ∧ (r.listeners = 1 → r.standing = false →
      ∃ t, exec .leave s = .next t ∧ t = { s with table := t.table, orders := t.orders, formed := t.formed }
        ∧ t.orders = { s.orders with list := s.orders.list.eraseP Waiting.due }
        ∧ t.table.holding.get c = (if s.table.pool.length < s.table.target then .pool else .none)
        ∧ t.table.pool = (if s.table.pool.length < s.table.target then s.table.pool ++ [c] else s.table.pool)
        ∧ ∀ d, d ≠ c → t.table.holding.get d = s.table.holding.get d)

/-- A LEAVE on a CYCLE channel: the oldest pending record of its tag is removed, or else one listener is taken off,
either reloading the quiet timer, or else it is ignored (R36, R40, R80). -/
def Obligations.LeaveWithdrawsACycleCaller : Prop :=
  ∀ (s : State) (o : Order) (c : Channel) (r : CycleRecord), dueOrder s.toStation = some o → o.body = .leave c.val →
    s.table.holding.get c = .cycle r →
    (∀ before p after, r.waiting = before ++ p :: after → p.tag = o.tag → (∀ q ∈ before, q.tag ≠ o.tag) →
      exec .leave s = .next { s with
        orders := { s.orders with list := s.orders.list.eraseP Waiting.due }
        table := { s.table with
          holding := s.table.holding.put c
            (.cycle { r with waiting := before ++ after, quiet := s.tables.quietPeriod }) } })
    ∧ ((∀ q ∈ r.waiting, q.tag ≠ o.tag) → 1 ≤ r.listeners →
      exec .leave s = .next { s with
        orders := { s.orders with list := s.orders.list.eraseP Waiting.due }
        table := { s.table with
          holding := s.table.holding.put c
            (.cycle { r with listeners := r.listeners - 1, quiet := s.tables.quietPeriod }) } })
    ∧ ((∀ q ∈ r.waiting, q.tag ≠ o.tag) → r.listeners = 0 →
      exec .leave s = .next { s with
        orders := { s.orders with list := s.orders.list.eraseP Waiting.due }
        table := { s.table with holding := s.table.holding.put c (.cycle r) } })

/-- A PROBE addressed to the station is answered with its condition, and the missed set is cleared as the word is
handed over; one for another station is discarded (R36, R37, R41). The PROBE reply has its fields at the bits of section
13.2 (R179). -/
def Obligations.ProbeReportsTheCondition : Prop :=
  (∀ (station : BitVec 4) (st : StationState) (grade pool free debt : Nat) (missed : Tbl 7 Bool) (active : Bool),
    ProbeLayout (probeWord station st grade pool free debt missed active) station st grade pool free debt missed active)
  ∧ ∀ (s : State) (o : Order) (station : Nat), dueOrder s.toStation = some o → o.body = .probe station →
    (station = s.number.toNat →
      exec .probe s = .next { s with
        port := { s.port with replyOut := some (probeWord s.number s.orders.state s.monitor.grade s.table.pool.length
          (freeEngines s.toStation) (s.store.debt + 2).toNat s.orders.missed s.recorder.isSome) }
        orders := { s.orders with
          list := s.orders.list.eraseP Waiting.due, missed := Tbl.fill 7 false } })
    ∧ (station ≠ s.number.toNat →
      exec .probe s = .next { s with orders := { s.orders with list := s.orders.list.eraseP Waiting.due } })

/-- A RECORD that passes its checks takes the oldest pool channel into RECORD, begins the recording in SEARCHING, and
names the channel and Z div 16 in its reply. Where the channel's owner position falls between the weighing and the
take and shows the channel lost, the take is refused, LOST is posted and the recorder stays IDLE (R25, R27, R37,
R162). That this position is an operand of the command is the model's choice (log entry 19). The accept form has its
fields at the bits of section 13.2 (R179). -/
def Obligations.RecordBeginsARecording : Prop :=
  (∀ (station : BitVec 4) (c : Channel) (z : Nat),
    hasFields (recordAcceptWord station c.val z) 0 0 station c.val (z / 16 % 4096))
  ∧ ∀ (s : State) (o : Order) (id : Nat) (e : Entry) (c : Channel) (rest : List Channel),
    dueOrder s.toStation = some o → o.body = .record s.number.toNat id → 2 ≤ o.cls → s.orders.state = .serving →
    s.recorder = none → findEntry s.toStation id = some e → e.pair.isSome = true → (e.guarded = true → 3 ≤ o.cls) →
    s.table.pool = c :: rest → s.table.holding.get c = .pool →
    (∀ d, s.table.holding.get d ≠ .record) →
    (∀ x eng, engineAt s.toStation x = some eng → some eng.area.base ≠ e.alternate) → e.alternate.isSome = true →
    (exec (.record none) s = .next { s with
      orders := { s.orders with list := s.orders.list.eraseP Waiting.due }
      port := { s.port with replyOut := some (recordAcceptWord s.number c.val s.tables.areaSize) }
      table := { s.table with
        holding := s.table.holding.put c .record, contention := s.table.contention.put c 0, pool := rest }
      recorder := some
        { phase := .searching, entry := id, cls := o.cls, input := some c, started := false, loudRun := [], placed := 0,
          nextBurst := 0, lastLoud := 0, quietRun := 0, damaged := false, ring := [] } })
    ∧ (∀ others, c.val < s.port.ownerNext → exec (.record (some others)) s = exec (.record none) s)
    ∧ ∀ others, s.port.ownerNext ≤ c.val → s.table.claimed ≠ some c → s.table.stopped = false →
        ∃ t, exec (.record (some others)) s = .next t
          ∧ t.port.replyOut = some (recordAcceptWord s.number c.val s.tables.areaSize)
          ∧ (wins s.number others = true → t.table.holding.get c = .record ∧ t.table.pool = rest
              ∧ ∃ r, t.recorder = some r ∧ r.phase = .searching ∧ r.entry = id ∧ r.input = some c)
          ∧ (wins s.number others = false → t.table.holding.get c = .none ∧ t.recorder = none
              ∧ (s.orders.latch = none → t.orders.latch = some
                  { kind := .lost, channel := some c, detail := (laneWord (s.number :: others)).toNat }))

/-- The first check that fails refuses a RECORD, in the order CLASS, STATE, UNKNOWN, CLASS, NO-CHANNEL, BUSY, and a
refused RECORD changes nothing but the reply driven (R37, R38). While a channel is in RECORD it is refused as if the pool
were empty (R34). A RECORD for another station is discarded, with nothing driven (R37). The refusal form has its fields
at the bits of section 13.2 (R179). -/
def Obligations.RecordIsRefusedInOrder : Prop :=
  (∀ (reason : Reason) (station : BitVec 4),
    hasFields (refusalWord reason station) 2 (16 * reasonNumber reason + 15) station 63 4095)
  ∧ (∀ (s : State) (o : Order) (station id : Nat) (between : Option (List OwnerCode)), dueOrder s.toStation = some o →
    o.body = .record station id → station ≠ s.number.toNat →
    exec (.record between) s = .next { s with orders := { s.orders with list := s.orders.list.eraseP Waiting.due } })
  ∧ ∀ (s : State) (o : Order) (id : Nat) (between : Option (List OwnerCode)) (reason : Reason),
    dueOrder s.toStation = some o → o.body = .record s.number.toNat id →
    ((reason = .cls ∧ o.cls < 2)
      ∨ (reason = .state ∧ 2 ≤ o.cls ∧ (s.orders.state ≠ .serving ∨ s.recorder ≠ none))
      ∨ (2 ≤ o.cls ∧ s.orders.state = .serving ∧ s.recorder = none
        ∧ ((reason = .unknown ∧ ∀ e, findEntry s.toStation id = some e → e.pair = none)
          ∨ ∃ e, findEntry s.toStation id = some e ∧ e.pair ≠ none
            ∧ ((reason = .cls ∧ e.guarded = true ∧ o.cls < 3)
              ∨ ((e.guarded = true → 3 ≤ o.cls)
                ∧ ((reason = .noChannel ∧ (s.table.pool = [] ∨ ∃ c, s.table.holding.get c = .record))
                  ∨ (reason = .busy ∧ s.table.pool ≠ [] ∧ (∀ c, s.table.holding.get c ≠ .record)
                    ∧ ∃ x eng, engineAt s.toStation x = some eng ∧ e.alternate = some eng.area.base))))))) →
    exec (.record between) s = .next { s with
      orders := { s.orders with list := s.orders.list.eraseP Waiting.due }
      port := { s.port with replyOut := some (refusalWord reason s.number) } }

/-- A FINISH DISCARD that passes its checks ends the recording, gives the input channel back and leaves the directory
and the store as they were (R26, R37, R167). The first check that fails refuses it, in the order CLASS, STATE, CLASS, and
one for another station is discarded (R37). The FINISH accept form has its fields at the bits of section 13.2 (R179). -/
def Obligations.DiscardEndsTheRecording : Prop :=
  (∀ (station : BitVec 4) (damaged : Bool) (length : Nat), ∀ w, w = finishAcceptWord station damaged length →
    bits w 31 30 = 0 ∧ bits w 29 26 = (if damaged then 1 else 0) ∧ bits w 25 22 = 0 ∧ bits w 21 18 = station.toNat
      ∧ bits w 17 0 = length % 262144)
  ∧ (∀ (s : State) (o : Order) (station : Nat), dueOrder s.toStation = some o → o.body = .finish station .discard →
    (station ≠ s.number.toNat →
      exec .finishDiscard s = .next { s with orders := { s.orders with list := s.orders.list.eraseP Waiting.due } })
    ∧ ∀ reason, station = s.number.toNat → finishRefused s o.cls reason →
      exec .finishDiscard s = .next { s with
        orders := { s.orders with list := s.orders.list.eraseP Waiting.due }
        port := { s.port with replyOut := some (refusalWord reason s.number) } })
  ∧ ∀ (s : State) (o : Order) (r : Recording) (c : Channel), dueOrder s.toStation = some o →
    o.body = .finish s.number.toNat .discard → 2 ≤ o.cls → s.recorder = some r → r.phase ≠ .committing →
    r.cls ≤ o.cls → r.input = some c →
    ∃ t, exec .finishDiscard s = .next t ∧ t.recorder = none
      ∧ t = { s with port := t.port, table := t.table, orders := t.orders, formed := t.formed, recorder := t.recorder }
      ∧ t.port.replyOut = some (finishAcceptWord s.number false 0)
      ∧ t.table.holding.get c = (if s.table.pool.length < s.table.target then .pool else .none)
      ∧ (∀ d, d ≠ c → t.table.holding.get d = s.table.holding.get d)
      ∧ t.tables = s.tables ∧ t.store = s.store ∧ t.engines = s.engines ∧ t.orders.latch = s.orders.latch

/-- A FINISH COMMIT that passes its checks gives the condition and the new length, gives the input channel back, and
leaves the recorder COMMITTING with whole bursts, or, where nothing is left to write, makes the swap at once (R37,
R167, R168). The first check that fails refuses it, in the order CLASS, STATE, CLASS, EMPTY, and one for another station
is discarded (R37). -/
def Obligations.CommitTrimsTheRecording : Prop :=
  (∀ (s : State) (o : Order) (station : Nat), dueOrder s.toStation = some o → o.body = .finish station .commit →
    (station ≠ s.number.toNat →
      exec .finishCommit s = .next { s with orders := { s.orders with list := s.orders.list.eraseP Waiting.due } })
    ∧ ∀ reason, station = s.number.toNat →
      (finishRefused s o.cls reason
        ∨ (reason = .empty ∧ 2 ≤ o.cls ∧ ∃ r, s.recorder = some r ∧ r.phase = .searching ∧ r.cls ≤ o.cls)) →
      exec .finishCommit s = .next { s with
        orders := { s.orders with list := s.orders.list.eraseP Waiting.due }
        port := { s.port with replyOut := some (refusalWord reason s.number) } })
  ∧ ∀ (s : State) (o : Order) (r : Recording) (c : Channel), dueOrder s.toStation = some o →
    o.body = .finish s.number.toNat .commit → 2 ≤ o.cls → s.recorder = some r →
    (r.phase = .capturing ∨ r.phase = .held) → r.cls ≤ o.cls → r.input = some c →
    ∃ t, exec .finishCommit s = .next t
      ∧ t = { s with
          port := t.port, table := t.table, orders := t.orders, formed := t.formed, recorder := t.recorder,
          tables := t.tables }
      ∧ (∀ d, d ≠ c → t.table.holding.get d = s.table.holding.get d)
      ∧ t.port.replyOut = some (finishAcceptWord s.number r.damaged (r.lastLoud + 1))
      ∧ t.table.holding.get c = (if s.table.pool.length < s.table.target then .pool else .none)
      ∧ (r.kept ≠ [] → ∃ q, t.recorder = some q ∧ q.phase = .committing ∧ q.input = none
          ∧ q.ring.length % 16 = 0 ∧ q.ring.take r.kept.length = r.kept ∧ q.lastLoud = r.lastLoud
          ∧ (∀ k ∈ q.ring.drop r.kept.length, k = 255) ∧ t.tables = s.tables)
      ∧ (r.kept = [] → t.recorder = none ∧ ∀ e b, findEntry s.toStation r.entry = some e → e.alternate = some b →
          ∃ e', findEntry t.toStation r.entry = some e' ∧ e'.area = { base := b, length := r.lastLoud + 1 }
            ∧ e'.alternate = some e.area.base)
      ∧ t.store = s.store

/-- The accepted SERVICE pairs are those of R44, R46 and R47; every other pairing of an action with a state that takes
orders, and action code 3 in every state, is refused STATE at the weighing, by the command of its action (R48). Before
that a class below 2, and for FORCE a class below 3, is refused CLASS, and a SERVICE for another station is discarded. -/
def Obligations.OtherServicePairsAreRefused : Prop :=
  ∀ (s : State) (o : Order) (station : Nat) (action : ServiceAction), dueOrder s.toStation = some o →
    o.body = .service station action →
    (serviceTarget s.orders.state action =
      (match action, s.orders.state with
        | .drain, .serving => some .draining
        | .drain, .listening => some .resting
        | .force, .serving => some .resting
        | .force, .draining => some .resting
        | .force, .listening => some .resting
        | .back, .draining => some .serving
        | .back, .resting => some .listening
        | _, _ => none))
    ∧ (station ≠ s.number.toNat → exec (serviceCommand action) s = .next { s with
        orders := { s.orders with list := s.orders.list.eraseP Waiting.due } })
    ∧ ∀ reason, station = s.number.toNat →
      ((reason = .cls ∧ (o.cls < 2 ∨ (action = .force ∧ o.cls < 3)))
        ∨ (reason = .state ∧ 2 ≤ o.cls ∧ (action = .force → 3 ≤ o.cls)
          ∧ serviceTarget s.orders.state action = none)) →
      exec (serviceCommand action) s = .next { s with
        orders := { s.orders with list := s.orders.list.eraseP Waiting.due }
        port := { s.port with replyOut := some (refusalWord reason s.number) } }

/-- An accepted DRAIN: SERVING becomes DRAINING. A standing channel with listeners keeps its record but for the standing
mark, which is cleared, one with no listeners ends and goes to NONE, and every other channel and the pool stand (R44,
R105). LISTENING becomes RESTING with the store sent into self-renew (R149). That a channel ended here goes to NONE
although the target formed for the frame may still be above the pool is read from R105 (log entry 10), and that the
listening count stands at 0 outside LISTENING is the model's choice (log entry 37). The SERVICE accept form has its
fields at the bits of section 13.2 (R179). -/
def Obligations.DrainTakesTheStationOut : Prop :=
  (∀ (station : BitVec 4) (st : StationState),
    hasFields (serviceAcceptWord station st) 0 (32 * stateNumber st + 31) station 63 4095)
  ∧ ∀ (s : State) (o : Order), dueOrder s.toStation = some o → o.body = .service s.number.toNat .drain → 2 ≤ o.cls →
    (s.orders.state = .serving → ∃ t, exec .serviceDrain s = .next t ∧ t.orders.state = .draining
      ∧ t = { s with port := t.port, table := t.table, orders := t.orders, formed := t.formed }
      ∧ t.port.replyOut = some (serviceAcceptWord s.number .draining)
      ∧ (∀ c r, t.table.holding.get c = .tone r → r.standing = false)
      ∧ (∀ c r, s.table.holding.get c = .tone r → r.standing = true → r.listeners = 0 → t.table.holding.get c = .none)
      ∧ (∀ c r, s.table.holding.get c = .tone r → r.standing = true → 1 ≤ r.listeners →
          t.table.holding.get c = .tone { r with standing := false })
      ∧ (∀ c r, s.table.holding.get c = .tone r → r.standing = false → t.table.holding.get c = .tone r)
      ∧ (∀ c, (s.table.holding.get c).isTone = false → t.table.holding.get c = s.table.holding.get c)
      ∧ t.table.pool = s.table.pool ∧ t.orders.latch = s.orders.latch
      ∧ t.store = s.store ∧ t.recorder = s.recorder ∧ t.engines = s.engines)
    ∧ (s.orders.state = .listening → exec .serviceDrain s = .next { s with
        orders := { s.orders with list := s.orders.list.eraseP Waiting.due, listening := 0, state := .resting }
        port := { s.port with replyOut := some (serviceAcceptWord s.number .resting) }
        store := { s.store with work := .entry } })

/-- An accepted FORCE drops every channel without a notice, takes the station into RESTING and sends the store into
self-renew; the waiting orders and the back-off list are kept (R32, R47, R149). -/
def Obligations.ForceDropsEverything : Prop :=
  ∀ (s : State) (o : Order), dueOrder s.toStation = some o → o.body = .service s.number.toNat .force → o.cls = 3 →
    (s.orders.state = .serving ∨ s.orders.state = .draining ∨ s.orders.state = .listening) →
    ∃ t, exec .serviceForce s = .next t ∧ t.orders.state = .resting
      ∧ t = { s with
          port := t.port, table := t.table, orders := t.orders, formed := t.formed, engines := t.engines,
          recorder := t.recorder, store := t.store }
      ∧ t.port.replyOut = some (serviceAcceptWord s.number .resting)
      ∧ (∀ c, t.table.holding.get c = .none ∧ t.table.contention.get c = 0) ∧ t.table.pool = []
      ∧ t.table.claimed = none ∧ t.recorder = none ∧ (∀ e, (t.engines.get e).bound = none)
      ∧ t.store = { s.store with work := .entry } ∧ t.orders.list = s.orders.list.eraseP Waiting.due
      ∧ t.orders.latch = s.orders.latch ∧ t.table.backOff = s.table.backOff ∧ t.table.view = s.table.view
      ∧ t.tables = s.tables

/-- An accepted RETURN: DRAINING serves again, and RESTING listens from 0 with the store brought out of self-renew
(R46, R150). -/
def Obligations.ReturnBringsTheStationBack : Prop :=
  ∀ (s : State) (o : Order), dueOrder s.toStation = some o → o.body = .service s.number.toNat .back → 2 ≤ o.cls →
    (s.orders.state = .draining → exec .serviceReturn s = .next { s with
      orders := { s.orders with list := s.orders.list.eraseP Waiting.due, state := .serving }
      port := { s.port with replyOut := some (serviceAcceptWord s.number .serving) } })
    ∧ (s.orders.state = .resting → ∃ t, exec .serviceReturn s = .next t ∧ t.orders.state = .listening
      ∧ t = { s with port := t.port, orders := t.orders, store := t.store }
      ∧ t.orders.listening = 0 ∧ t.port.replyOut = some (serviceAcceptWord s.number .listening)
      ∧ (s.store.state = .selfRenew → t.store.exitSignal = true)
      ∧ (s.store.state ≠ .selfRenew → t.store.exitSignal = false ∧ t.store.work ≠ .entry)
      ∧ t.table = s.table ∧ t.store.memory = s.store.memory)

/-- A notice position drives the pending notice; a win clears the latch, and a loss leaves the notice pending. Where a
notice is posted between the driving and the outcome, a win clears the latch only if it still holds the notice driven
(R14, R15, R53). The notice word has its fields at the bits of section 13.2, with the kind codes given there (R179). That
one command carries the whole position or a half of it is the model's choice (log entry 18). -/
def Obligations.NoticePositionDrivesTheLatch : Prop :=
  (∀ (n : Notice) (station : BitVec 4), hasFields (noticeWord n station) 0 (16 * kindNumber n.kind) station
    (match n.channel with
      | some c => c.val
      | none => 63) (n.detail % 4096))
  ∧ (∀ (s : State) (n : Notice) (word : Word) (others : List Word), s.orders.driving = some n →
    s.port.replyOut = some word → s.orders.countdown = none →
    exec (.noticePosition (.outcome others)) s = .next { s with
      orders := { s.orders with
        driving := none, drivenStands := false
        latch := if wins word others && s.orders.drivenStands then none else s.orders.latch } })
  ∧ ∀ (s : State) (n : Notice) (others : List Word), s.port.timer ≠ none → s.port.orderSeen = true →
    s.orders.seen2 = .noticeMark → s.orders.noticeUsed = false → s.orders.countdown = none →
    s.orders.latch = some n →
    exec (.noticePosition (.whole others)) s = .next { s with
      port := { s.port with replyOut := some (noticeWord n s.number) }
      orders := { s.orders with
        noticeUsed := true, driving := none, drivenStands := false
        latch := if wins (noticeWord n s.number) others then none else some n } }

/-- A FAULT notice that wins in the halt countdown halts the station, and so does the countdown's end: the order unit
is emptied and the store stops (R51, R53, R54, R151). -/
def Obligations.HaltingEmptiesTheOrderUnit : Prop :=
  (∀ s : State, s.orders.countdown = some 0 →
    ∃ t, exec .haltCountdownEnd s = .next t ∧ t = { s with orders := t.orders, store := t.store }
      ∧ t.orders.state = .halted ∧ t.orders.list = [] ∧ t.orders.latch = none
      ∧ (∀ k, t.orders.missed.get k = false) ∧ t.orders.countdown = none
      ∧ t.store.state = (if s.store.state = .unset then .unset else .stopped) ∧ t.store.debt = 0 ∧ t.store.due = []
      ∧ t.table = s.table ∧ t.monitor = s.monitor ∧ t.tables = s.tables)
  ∧ ∀ (s : State) (n : Notice) (k : Nat) (others : List Word), s.port.timer ≠ none → s.port.orderSeen = true →
    s.orders.seen2 = .noticeMark → s.orders.noticeUsed = false → s.orders.countdown = some k →
    s.orders.latch = some n → n.kind = .fault → wins (noticeWord n s.number) others = true →
    ∃ t, exec (.noticePosition (.whole others)) s = .next t
      ∧ t = { s with port := t.port, orders := t.orders, store := t.store }
      ∧ t.orders.state = .halted ∧ t.orders.latch = none
      ∧ t.orders.list = [] ∧ (∀ x, t.orders.missed.get x = false) ∧ t.orders.countdown = none
      ∧ t.store.state = (if s.store.state = .unset then .unset else .stopped)

/-- A won EXISTING offer is bound to its channel: a listener more, or a pending record more, with the quiet timer
reloaded; where the channel is gone nothing is bound. A lost offer is dropped and nothing else changes (R14, R67, R69,
R70). -/
def Obligations.ExistingOfferIsBound : Prop :=
  ∀ (s : State) (o : Offer) (word : Word) (others : List Word), s.offer = some o → s.port.replyOut = some word →
    (wins word others = true → o.isNew = false →
      (∀ r, s.table.holding.get o.channel = .tone r →
        exec (.bindExisting others) s = .next { s with
          offer := none
          table := { s.table with
            holding := s.table.holding.put o.channel
              (.tone { r with listeners := r.listeners + 1, quiet := s.tables.quietPeriod }) } })
      ∧ (∀ r, s.table.holding.get o.channel = .cycle r → o.wayIn = .listener →
        exec (.bindExisting others) s = .next { s with
          offer := none
          table := { s.table with
            holding := s.table.holding.put o.channel
              (.cycle { r with listeners := r.listeners + 1, quiet := s.tables.quietPeriod }) } })
      ∧ (∀ r, s.table.holding.get o.channel = .cycle r → o.wayIn = .pending →
        exec (.bindExisting others) s = .next { s with
          offer := none
          table := { s.table with
            holding := s.table.holding.put o.channel (.cycle { r with
              waiting := r.waiting ++ [{ tag := o.tag, mode := o.mode }], quiet := s.tables.quietPeriod }) } })
      ∧ (s.table.holding.get o.channel = .none → exec (.bindExisting others) s = .next { s with offer := none }))
    ∧ (wins word others = false → exec (.offerLost others) s = .next { s with offer := none })

/-- A won NEW offer takes its pool channel: a tone with a free generator and one listener, or a cycle in PRIMING with
a free engine, T at 2, the cycle number at 255, and its caller a listener in mode ANY and a pending record in mode
START (R25, R68, R72, R94, R119). -/
def Obligations.NewOfferIsBound : Prop :=
  ∀ (s : State) (o : Offer) (word : Word) (others : List Word), s.offer = some o → s.port.replyOut = some word →
    wins word others = true → s.table.holding.get o.channel = .pool →
    (∀ g, o.wayIn = .newTone → freeGenerator s.toStation = some g → countHolding s.toStation Holding.isTone < 8 →
      ∃ t r, exec (.bindNew others) s = .next t ∧ t = { s with offer := t.offer, table := t.table, formed := t.formed }
        ∧ t.table.holding.get o.channel = .tone r
        ∧ r.plan = o.signal ∧ r.listeners = 1 ∧ r.quiet = s.tables.quietPeriod ∧ r.standing = false ∧ r.generator = g
        ∧ r.mode = .starting ∧ r.phase1 = 0 ∧ r.phase2 = 0
        ∧ t.table.pool = s.table.pool.erase o.channel ∧ t.table.contention.get o.channel = 0 ∧ t.offer = none
        ∧ (∀ d, d ≠ o.channel → t.table.holding.get d = s.table.holding.get d)
        ∧ t.engines = s.engines ∧ t.store = s.store ∧ t.orders = s.orders)
    ∧ (∀ e entry, o.wayIn = .newCycle → freeEngine s.toStation = some e →
      findEntry s.toStation o.signal = some entry → countHolding s.toStation Holding.isCycle < 16 →
      ∃ t, exec (.bindNew others) s = .next t ∧ t = { s with offer := t.offer, table := t.table, engines := t.engines }
        ∧ (∀ x, x ≠ e → t.engines.get x = s.engines.get x)
        ∧ t.table.holding.get o.channel = .cycle
            { announcement := o.signal, substate := .priming, t := 2, number := 255
              listeners := if o.mode = .any then 1 else 0
              waiting := if o.mode = .any then [] else [{ tag := o.tag, mode := .start }]
              quiet := s.tables.quietPeriod, late := false, position := 0, engine := e }
        ∧ (t.engines.get e).count = (s.engines.get e).count + 1
        ∧ engineAt t.toStation e = some
            { channel := o.channel, area := entry.area, pointer := { cycle := 0, burst := 0 },
              mark := { cycle := 0, number := 0 }, ring := [], flights := [], run := false }
        ∧ t.table.pool = s.table.pool.erase o.channel ∧ t.table.contention.get o.channel = 0 ∧ t.offer = none
        ∧ (∀ d, d ≠ o.channel → t.table.holding.get d = s.table.holding.get d)
        ∧ t.store = s.store ∧ t.orders = s.orders)

/-- A NEW offer won after its channel was lost binds nothing: no engine and no generator is allocated, and LOST is
posted with the code that was read (R27, R70). -/
def Obligations.TakeAfterLossIsRefused : Prop :=
  ∀ (s : State) (o : Offer) (word : Word) (others : List Word) (code : OwnerCode), s.offer = some o →
    o.isNew = true → s.port.replyOut = some word → wins word others = true →
    s.table.holding.get o.channel = .none → s.table.stopped = false → s.table.view.get o.channel = some code →
    s.orders.state.answers = true → s.orders.latch = none →
    exec (.bindNew others) s = .next { s with
      offer := none
      orders := { s.orders with
        latch := some { kind := .lost, channel := some o.channel, detail := code.toNat }, drivenStands := false } }

/-! ### Cycles and tones -/

/-- The start boundary: with nobody listening or waiting the channel ends and its engine is freed; otherwise every
pending record becomes a listener, T is loaded with N + G and the next cycle plays from position 0 (R76, R77, R85). -/
def Obligations.StartBoundaryStartsOrEnds : Prop :=
  ∀ (s : State) (c : Channel) (r : CycleRecord), s.table.holding.get c = .cycle r → r.t = 0 → r.substate ≠ .playing →
    (r.listeners = 0 → r.waiting = [] →
      ∃ t, exec (.startBoundary c.val) s = .next t
        ∧ t = { s with table := t.table, engines := t.engines, formed := t.formed }
        ∧ engineAt t.toStation r.engine = none
        ∧ t.table.holding.get c = (if s.table.pool.length < s.table.target then .pool else .none)
        ∧ (∀ d, d ≠ c → t.table.holding.get d = s.table.holding.get d) ∧ t.store = s.store ∧ t.orders = s.orders)
    ∧ (∀ eng e, r.listeners ≠ 0 ∨ r.waiting ≠ [] → engineAt s.toStation r.engine = some eng →
      findEntry s.toStation r.announcement = some e →
      exec (.startBoundary c.val) s = .next { s with
        table := { s.table with
          holding := s.table.holding.put c (.cycle { r with
            number := r.number + 1, listeners := r.listeners + r.waiting.length, waiting := [],
            t := eng.area.length + e.gap, substate := .playing, position := 0, late := false }) } })

/-- The audio end: with nobody listening or waiting the channel ends at once; otherwise, with a gap, the channel is in
GAP, its engine deals with the next cycle from position 0 and its run mark is clear (R75, R85, R122, R123). With a gap of
0 the next cycle starts at once, after the engine's wrap: T is loaded with the length of the area the engine has latched
(R76, R77, R127). -/
def Obligations.AudioEndOpensTheGap : Prop :=
  ∀ (s : State) (c : Channel) (r : CycleRecord) (e : Entry), s.table.holding.get c = .cycle r →
    r.substate = .playing → findEntry s.toStation r.announcement = some e → r.t = e.gap →
    (r.listeners = 0 → r.waiting = [] →
      ∃ t, exec (.audioEnd c.val) s = .next t
        ∧ t = { s with table := t.table, engines := t.engines, formed := t.formed }
        ∧ (∀ d, d ≠ c → t.table.holding.get d = s.table.holding.get d)
        ∧ engineAt t.toStation r.engine = none
        ∧ t.table.holding.get c = (if s.table.pool.length < s.table.target then .pool else .none)
        ∧ t.store = s.store ∧ t.orders = s.orders)
    ∧ (∀ eng, r.listeners ≠ 0 ∨ r.waiting ≠ [] → engineAt s.toStation r.engine = some eng →
      ∃ t eng', exec (.audioEnd c.val) s = .next t ∧ t = { s with table := t.table, engines := t.engines }
        ∧ (1 ≤ e.gap →
            t.table = { s.table with holding := s.table.holding.put c (.cycle { r with substate := .gap }) })
        ∧ (e.gap = 0 → t.table.holding.get c = .cycle { r with
              number := r.number + 1, listeners := r.listeners + r.waiting.length, waiting := [], t := eng'.area.length
              substate := .playing, position := 0, late := false }
            ∧ (∀ d, d ≠ c → t.table.holding.get d = s.table.holding.get d)
            ∧ t.table = { s.table with holding := t.table.holding })
        ∧ engineAt t.toStation r.engine = some eng'
        ∧ eng'.mark = { cycle := eng.mark.cycle + 1, number := 0 } ∧ eng'.run = false
        ∧ (eng.pointer.cycle ≤ eng.mark.cycle →
            eng'.pointer = { cycle := eng.mark.cycle + 1, burst := 0 } ∧ eng'.area = e.area)
        ∧ (eng.mark.cycle < eng.pointer.cycle → eng'.pointer = eng.pointer ∧ eng'.area = eng.area)
        ∧ (∀ x, x ≠ r.engine → t.engines.get x = s.engines.get x)
        ∧ t.store = s.store ∧ t.orders = s.orders ∧ t.tables = s.tables)

/-- The expiry of a quiet timer clears the listeners and reloads the timer, with STALE for the listeners removed; a
cycle keeps its pending records and its channel, a standing tone its channel, and an ordinary tone ends (R52, R83,
R102, R105). With no listeners nothing is posted, whatever the latch holds (R83, R102). -/
def Obligations.QuietExpiryClearsTheListeners : Prop :=
  (∀ (s : State) (c : Channel),
    (∀ r, s.table.holding.get c = .cycle r → r.quiet = 0 → r.listeners = 0 →
      exec (.cycleQuietExpiry c.val) s = .next { s with
        table := { s.table with
          holding := s.table.holding.put c (.cycle { r with quiet := s.tables.quietPeriod }) } })
    ∧ (∀ r, s.table.holding.get c = .tone r → r.quiet = 0 → r.listeners = 0 → r.standing = true →
      exec (.toneQuietExpiry c.val) s = .next { s with
        table := { s.table with
          holding := s.table.holding.put c (.tone { r with quiet := s.tables.quietPeriod }) } })
    ∧ (∀ r, s.table.holding.get c = .tone r → r.quiet = 0 → r.listeners = 0 → r.standing = false →
      ∃ t, exec (.toneQuietExpiry c.val) s = .next t ∧ t = { s with table := t.table, formed := t.formed }
        ∧ t.table.holding.get c = (if s.table.pool.length < s.table.target then .pool else .none)
        ∧ ∀ d, d ≠ c → t.table.holding.get d = s.table.holding.get d))
  ∧ ∀ (s : State) (c : Channel), s.orders.state.answers = true → s.orders.latch = none →
    (∀ r, s.table.holding.get c = .cycle r → r.quiet = 0 → 1 ≤ r.listeners →
      exec (.cycleQuietExpiry c.val) s = .next { s with
        table := { s.table with
          holding := s.table.holding.put c (.cycle { r with listeners := 0, quiet := s.tables.quietPeriod }) }
        orders := { s.orders with
          latch := some { kind := .stale, channel := some c, detail := r.listeners }, drivenStands := false } })
    ∧ (∀ r, s.table.holding.get c = .tone r → r.quiet = 0 → 1 ≤ r.listeners → r.standing = true →
      exec (.toneQuietExpiry c.val) s = .next { s with
        table := { s.table with
          holding := s.table.holding.put c (.tone { r with listeners := 0, quiet := s.tables.quietPeriod }) }
        orders := { s.orders with
          latch := some { kind := .stale, channel := some c, detail := r.listeners }, drivenStands := false } })
    ∧ (∀ r, s.table.holding.get c = .tone r → r.quiet = 0 → 1 ≤ r.listeners → r.standing = false →
      ∃ t, exec (.toneQuietExpiry c.val) s = .next t
        ∧ t = { s with table := t.table, orders := t.orders, formed := t.formed }
        ∧ t.table.holding.get c = (if s.table.pool.length < s.table.target then .pool else .none)
        ∧ t.orders.latch = some { kind := .stale, channel := some c, detail := r.listeners }
        ∧ ∀ d, d ≠ c → t.table.holding.get d = s.table.holding.get d)

/-- A timed step that has run out starts a search at its successor, the next step or after the last one the loop point,
where the pass count rises: the candidates whose condition is false are passed over, the first whose condition is true
is entered, and where the plan's step count of them has been examined and none is true the generator waits with the
next candidate (R98, R99, R100). STEP_EXPIRY has it so, and so has the boundary before a frame that FRAME_PULSE begins,
where a HELD step whose condition has become false and a generator that waits search too, and every other step goes on;
the channel's phases then advance with the frame (R96, R100). -/
def Obligations.StepExpiryEntersTheNextStep : Prop :=
  ∀ (s : State) (c : Channel) (r : ToneRecord) (p : Plan), s.table.holding.get c = .tone r →
    findPlan s.toStation r.plan = some p → p.loop < p.steps.length →
    (r.mode = .timed → r.remaining = 0 →
      ∃ q, exec (.stepExpiry c.val) s = .next { s with
          table := { s.table with holding := s.table.holding.put c (.tone q) } }
        ∧ searched p s.monitor.grade (nextCandidate p (r.step, r.pass)) r q)
    ∧ ∀ long inStep, pulseAccepted s → boundaryPulse long s → 2 ≤ r.quiet → c ∉ s.table.pool → r.mode ≠ .starting →
      ∃ t q x, exec (.framePulse ⟨long, inStep⟩) s = .next t ∧ cadenceStep p s.monitor.grade r q
        ∧ t.table.holding.get c = .tone x
        ∧ x = { q with
            quiet := r.quiet - 1, phase1 := q.phase1 + q.inc1, phase2 := q.phase2 + q.inc2, standing := x.standing }

/-! ### The monitor and the station state -/

/-- The counts kept at boundaries, at their ends: the eighth boundary in a row with a lower raw grade lowers the grade
by one, with its notice, and the sixteenth boundary in LISTENING takes the station into SERVING, with a STATE notice
of detail 2 (R43, R154, R156). That the listening count stands at 0 outside LISTENING is the model's choice (log entry
37). -/
def Obligations.BoundaryCountsComeToTheirEnds : Prop :=
  ∀ s : State, s.orders.latch = none →
    (8 ≤ s.monitor.fall → s.orders.state.answers = true →
      exec .gradeFall s = .next { s with
        monitor := { s.monitor with grade := s.monitor.grade - 1, fall := 0 }
        orders := { s.orders with
          latch := some
            { kind := .grade, channel := none
              detail := 64 * (s.monitor.grade - 1) + 16 * s.monitor.channelPressure + 4 * s.monitor.enginePressure
                + s.monitor.storePressure }
          drivenStands := false } })
    ∧ (s.orders.state = .listening → s.orders.countdown = none → 16 ≤ s.orders.listening →
      exec .listeningComplete s = .next { s with
        orders := { s.orders with
          state := .serving, listening := 0
          latch := some { kind := .state, channel := none, detail := 2 }, drivenStands := false } })

/-! ### The store -/

/-- OPEN and CLOSE, where the controller decides them: the bank opens on its row with the step in the open-window
history, or is closed from this step; the contents, and every other bank as the step's due events leave it, stand
(R137, R140). That a store command acts only where it is decided is the model's choice (log entry 11). -/
def Obligations.OpenAndCloseChangeTheBank : Prop :=
  ∀ (s : State) (b : Fin 8),
    (∀ row, row < 8192 → decidedNow s.toStation = some (.openRow b row) →
      ∃ t, exec (.openRow b.val row) s = .next t ∧ (t.store.banks.get b).openRow = some row
        ∧ (t.store.banks.get b).lastOpen = some s.store.step ∧ s.store.step ∈ t.store.opens
        ∧ t.store.issued = some (.openRow b row) ∧ t.store.memory = s.store.memory ∧ t.table = s.table
        ∧ t.tables = s.tables ∧ t.monitor = s.monitor ∧ t.recorder = s.recorder
        ∧ ∀ x, x ≠ b → t.store.banks.get x = (prepareStep s.toStation).store.banks.get x)
    ∧ (decidedNow s.toStation = some (.close b) →
      ∃ t, exec (.close b.val) s = .next t ∧ (t.store.banks.get b).openRow = none
        ∧ (t.store.banks.get b).lastClose = some s.store.step ∧ t.store.issued = some (.close b)
        ∧ t.store.memory = s.store.memory ∧ t.table = s.table
        ∧ t.tables = s.tables ∧ t.monitor = s.monitor ∧ t.recorder = s.recorder
        ∧ ∀ x, x ≠ b → t.store.banks.get x = (prepareStep s.toStation).store.banks.get x)

/-- FETCH and FETCH-CLOSE, where the controller decides them: the burst the engine asks for is read now and falls due
L steps later under the engine's binding count, a fetch is in flight, and FETCH-CLOSE closes the bank a step later
(R119, R126, R137, R141). The fetch pointer moves to the next burst, and past the end of the playing cycle it wraps at
once into the next one, latching the entry's current area (R126). The engine that asks is what the step's arrivals leave
it, aimed afresh at the burst of its play mark where its request lies wholly before the mark, and then wrapped where its
pointer stands past the playing cycle (R125, R126, R128). That a store command acts only where it is decided is the
model's choice (log entry 11), and so is a wrap due made before the step's ranking (log entry 39). -/
def Obligations.FetchReadsTheBurstAskedFor : Prop :=
  (∀ (s : State) (e : Fin 16) (g : Engine), engineAt s.toStation e = some g →
    ∃ g1, engineAt (prepareStep s.toStation) e = some g1
      ∧ (∀ h, h = received (s.engines.get e).count e (s.store.due.filter fun d => decide (d.step ≤ s.store.step)) g →
          (aimsAfresh h → g1 = { h with pointer := { h.pointer with burst := h.mark.number / 16 } })
          ∧ (¬ aimsAfresh h → g1 = h))
      ∧ ∀ r entry, s.table.holding.get g.channel = .cycle r → findEntry s.toStation r.announcement = some entry →
          ∃ g2, engineAt (wrapEngines (prepareStep s.toStation)) e = some g2 ∧ wrapped r entry g1 g2)
  ∧ ∀ (s : State) (e : Fin 16) (close : Bool) (eng : Engine), decidedNow s.toStation = some (.fetch e close) →
    engineAt (wrapEngines (prepareStep s.toStation)) e = some eng →
    ∃ t eng', exec (if close then .fetchClose e.val else .fetch e.val) s = .next t
      ∧ t.store.due = (wrapEngines (prepareStep s.toStation)).store.due ++
          [{ step := s.store.step + s.store.latency.getD 0, engine := e, count := (s.engines.get e).count
             place := eng.pointer, codes := readBurst s.toStation (eng.area.base + eng.pointer.burst) }]
      ∧ engineAt t.toStation e = some eng'
      ∧ (∀ r entry, s.table.holding.get eng.channel = .cycle r →
          findEntry s.toStation r.announcement = some entry →
          wrapped r entry { eng with
            flights := eng.flights ++ [eng.pointer]
            pointer := { eng.pointer with burst := eng.pointer.burst + 1 } } eng')
      ∧ eng'.flights = eng.flights ++ [eng.pointer]
      ∧ (t.store.banks.get (bankOf (eng.area.base + eng.pointer.burst))).lastFetch = some s.store.step
      ∧ (close = true →
          (t.store.banks.get (bankOf (eng.area.base + eng.pointer.burst))).pendingClose = some (s.store.step + 1))
      ∧ t.store.memory = s.store.memory ∧ t.table = s.table
      ∧ t.tables = s.tables ∧ t.monitor = s.monitor ∧ t.recorder = s.recorder
      ∧ (∀ x, x ≠ bankOf (eng.area.base + eng.pointer.burst) →
          t.store.banks.get x = (prepareStep s.toStation).store.banks.get x)
      ∧ ∀ x, x ≠ e → t.engines.get x = (wrapEngines (prepareStep s.toStation)).engines.get x

/-- PUT and PUT-CLOSE, where the controller decides them: the sixteen codes of the request are the contents of its
burst and are on the data lines, every other cell reads as before, and PUT-CLOSE closes the bank two steps later (R135,
R137, R152). The recorder gives the codes up from its ring, and the last PUT of a commit swaps the entry's areas and
leaves the recorder IDLE (R165, R168); the loader gives up its burst in hand, and the last one ends LOADING, in
LISTENING or in ISOLATED by the pulse (R42, R176). That a store command acts only where it is decided is the model's
choice (log entry 11). -/
def Obligations.PutWritesTheBurst : Prop :=
  ∀ (s : State) (close : Bool) (who : Requester) (a : Nat) (codes : List Code),
    decidedNow s.toStation = some (.put who close) → codes.length = 16 →
    ((∃ r, who = .recorder ∧ (prepareStep s.toStation).recorder = some r ∧ codes = r.ring.take 16
        ∧ a = alternateBase (prepareStep s.toStation) r.entry + r.nextBurst)
      ∨ (who = .loader ∧ codes = s.loader.hand ∧ a = loaderAddress s.toStation)) →
    ∃ t, exec (if close then .putClose else .put) s = .next t
      ∧ (∀ i, i < 16 → t.store.memory.read (16 * a + i) = codes[i]?)
      ∧ (∀ x, x < 16 * a ∨ 16 * a + 16 ≤ x → t.store.memory.read x = s.store.memory.read x)
      ∧ (t.store.banks.get (bankOf a)).lastPut = some s.store.step ∧ t.monitor = s.monitor ∧ t.number = s.number
      ∧ (close = true → (t.store.banks.get (bankOf a)).pendingClose = some (s.store.step + 2))
      ∧ t.store.lines.written = some codes
      ∧ (∀ r, who = .recorder → s.recorder = some r →
          (r.phase ≠ .committing ∨ 16 < r.ring.length →
            t.recorder = some { r with ring := r.ring.drop 16, nextBurst := r.nextBurst + 1 } ∧ t.tables = s.tables)
          ∧ (r.phase = .committing → r.ring.length ≤ 16 → t.recorder = none
              ∧ t.tables = { s.tables with directory := t.tables.directory }
              ∧ (∀ e b, findEntry s.toStation r.entry = some e → e.alternate = some b →
                  findEntry t.toStation r.entry = some { e with
                    area := { base := b, length := r.lastLoud + 1 }, alternate := some e.area.base })
              ∧ ∀ id, id ≠ r.entry → findEntry t.toStation id = findEntry s.toStation id))
      ∧ (∀ e, who = .loader → s.tables.directory[s.loader.audioEntry]? = some e →
          t.loader.hand = [] ∧ t.tables = s.tables ∧ t.recorder = s.recorder
          ∧ (s.loader.audioBurst + 1 < e.area.length →
              t.loader = { s.loader with hand := [], audioBurst := s.loader.audioBurst + 1 } ∧ t.orders = s.orders)
          ∧ (e.area.length ≤ s.loader.audioBurst + 1 →
              t.loader.audioEntry = s.loader.audioEntry + 1 ∧ t.loader.audioBurst = 0
              ∧ (s.loader.audioEntry + 1 < s.tables.directory.length →
                  t.loader.phase = .audio ∧ t.orders = s.orders)
              ∧ (s.tables.directory.length ≤ s.loader.audioEntry + 1 → t.loader.phase = .done
                  ∧ t.orders.state = (if s.port.timer = none then .isolated else .listening)
                  ∧ (s.port.timer ≠ none → t.orders.listening = 0))))

/-- RENEW, SETUP and the two SELF-RENEW commands, where the controller decides them: the store's state, its quiet
steps, its debt and its latency, with the contents as they were (R137, R145, R148, R149, R150). That a store command
acts only where it is decided is the model's choice (log entry 11). -/
def Obligations.RenewAndSetupChangeTheStore : Prop :=
  ∀ s : State,
    (decidedNow s.toStation = some .renew → ∃ t, exec .renew s = .next t ∧ t.store.state = .renewing
      ∧ t.store.quiet = 2 ∧ t.store.debt = (prepareStep s.toStation).store.debt - 1 ∧ t.store.memory = s.store.memory
      ∧ t.tables = s.tables ∧ t.monitor = s.monitor ∧ t.recorder = s.recorder ∧ t.table = s.table)
    ∧ (∀ latency, decidedNow s.toStation = some (.setup latency) → ∃ t, exec .setup s = .next t
      ∧ t.store.state = .setting ∧ t.store.quiet = 1 ∧ t.store.latency = some latency ∧ t.store.memory = s.store.memory
      ∧ t.tables = s.tables ∧ t.monitor = s.monitor ∧ t.recorder = s.recorder ∧ t.table = s.table)
    ∧ (decidedNow s.toStation = some .selfRenewEntry → ∃ t, exec .selfRenewEntry s = .next t
      ∧ t.store.state = .selfRenew ∧ t.store.debt = 0 ∧ t.store.frames = 0 ∧ t.store.memory = s.store.memory
      ∧ t.tables = s.tables ∧ t.monitor = s.monitor ∧ t.recorder = s.recorder ∧ t.table = s.table)
    ∧ (decidedNow s.toStation = some .selfRenewExit → ∃ t, exec .selfRenewExit s = .next t
      ∧ t.store.state = .waking ∧ t.store.quiet = 4 ∧ t.store.debt = 0 ∧ t.store.frames = 0
      ∧ t.store.memory = s.store.memory
      ∧ t.tables = s.tables ∧ t.monitor = s.monitor ∧ t.recorder = s.recorder ∧ t.table = s.table)

/-- A pending close due is carried out at its own step, but not where the store is STOPPED (R137, R151); the quiet steps
end in READY (R138); and the eighth frame raises the debt, forcing a renew at 8 unless a self-renew entry is in hand,
which stays (R144, R146). -/
def Obligations.StoreEventsComeDue : Prop :=
  ∀ s : State,
    (∀ (b : Fin 8) (k : Nat), (s.store.banks.get b).pendingClose = some k → k ≤ s.store.step →
      (s.store.state ≠ .stopped → exec (.pendingClose b.val) s = .next { s with store := { s.store with
        banks := s.store.banks.put b
          { s.store.banks.get b with openRow := none, pendingClose := none, lastClose := some k } } })
      ∧ (s.store.state = .stopped → exec (.pendingClose b.val) s = .next s))
    ∧ (s.store.state = .setting ∨ s.store.state = .renewing ∨ s.store.state = .waking → s.store.quiet = 0 →
      exec .storeQuietEnd s = .next { s with store := { s.store with state := .ready } })
    ∧ (8 ≤ s.store.frames → s.store.work ≠ .entry →
      exec .renewDebtRise s = .next { s with store := { s.store with
        frames := 0, debt := s.store.debt + 1
        work := if 8 ≤ s.store.debt + 1 then .forced else s.store.work } })
    ∧ (8 ≤ s.store.frames → s.store.work = .entry →
      exec .renewDebtRise s = .next { s with store := { s.store with frames := 0, debt := s.store.debt + 1 } })

/-- Fetched data due is on the data lines and goes to its engine where the fetch belongs to the present binding: the
samples not older than the play mark join the ring; a fetch of an earlier binding is discarded whole (R119, R128, R141,
R152). Items due together reach their engines in order, and items not yet due stay (R141). -/
def Obligations.FetchedDataReachesItsBinding : Prop :=
  (∀ s : State, ∃ t, exec .fetchDataArrival s = .next t
    ∧ t = { s with engines := t.engines, store := { s.store with
        due := s.store.due.filter fun d => decide (s.store.step < d.step)
        lines := { s.store.lines with
          read := s.store.lines.read
            ++ (s.store.due.filter fun d => decide (d.step ≤ s.store.step)).map DueItem.codes } } }
    ∧ (∀ e, engineAt s.toStation e = none → t.engines.get e = s.engines.get e)
    ∧ ∀ e eng, engineAt s.toStation e = some eng → t.engines.get e = { s.engines.get e with
        bound := some (received (s.engines.get e).count e
          (s.store.due.filter fun d => decide (d.step ≤ s.store.step)) eng) })
  ∧ ∀ (s : State) (d : DueItem), s.store.due = [d] → d.step ≤ s.store.step →
    (∀ eng, engineAt s.toStation d.engine = some eng → (s.engines.get d.engine).count = d.count →
      ∃ t, exec .fetchDataArrival s = .next t
        ∧ t = { s with engines := t.engines, store := { s.store with
            due := [], lines := { s.store.lines with read := s.store.lines.read ++ [d.codes] } } }
        ∧ engineAt t.toStation d.engine = some { eng with
            flights := eng.flights.erase d.place
            ring := eng.ring ++ (samplesOf d.place d.codes).filter fun x => !x.position.before eng.mark }
        ∧ (∀ e, e ≠ d.engine → t.engines.get e = s.engines.get e) ∧ t.store.memory = s.store.memory)
    ∧ (engineAt s.toStation d.engine = none ∨ (s.engines.get d.engine).count ≠ d.count →
      exec .fetchDataArrival s = .next { s with store := { s.store with
        due := [], lines := { s.store.lines with read := s.store.lines.read ++ [d.codes] } } })

/-! ### The recorder and the loader -/

/-- Four loud codes in a row begin the capture with those four codes. Capture stops at the end silence and at the full
area: the recorder is HELD, the codes after the last loud burst are dropped, and RECORD-END gives the length (R52,
R163, R166). -/
def Obligations.CaptureStartsAndStops : Prop :=
  (∀ (s : State) (r : Recording), s.recorder = some r → r.phase = .searching → r.loudRun.length = 4 →
    exec .captureStart s = .next { s with
      recorder := some { r with
        phase := .capturing, ring := r.loudRun, placed := 4, lastLoud := 0, quietRun := 0, loudRun := [] } })
  ∧ ∀ (s : State) (r : Recording), s.recorder = some r → r.phase = .capturing → s.orders.state.answers = true →
    s.orders.latch = none →
    (16 * s.tables.endSilence ≤ r.quietRun →
      exec .endSilenceStop s = .next { s with
        recorder := some { r with phase := .held, ring := r.ring.take (16 * (r.lastLoud + 1) - 16 * r.nextBurst) }
        orders := { s.orders with
          latch := some { kind := .recordEnd, channel := r.input, detail := min 4095 (r.lastLoud + 1) }
          drivenStands := false } })
    ∧ (16 * s.tables.areaSize ≤ r.placed →
      exec .fullAreaStop s = .next { s with
        recorder := some { r with phase := .held, ring := r.ring.take (16 * (r.lastLoud + 1) - 16 * r.nextBurst) }
        orders := { s.orders with
          latch := some { kind := .recordEnd, channel := r.input, detail := min 4095 (r.lastLoud + 1) }
          drivenStands := false } })

/-- A flash byte in LOADING is taken by the loader's phase; outside LOADING no byte is read (R171). The header's 22 bytes
and the records are taken into the CRC; a wrong format id, and counts above the station's capacity, halt the station
(R172, R173). A record is complete at its length and is read by its layout (R180). The two CRC bytes are compared with
the register, and the image is checked: a fault halts the station with the store left as it stands, UNSET; otherwise
the tables are built with their clamps, L is handed to the store controller, and AUDIO begins (R172 to R175). An audio
byte joins the burst in hand while a burst is still to be read (R176). -/
def Obligations.FlashByteFeedsTheLoader : Prop :=
  ∀ (s : State) (b : Byte),
    (s.orders.state = .loading → s.loader.phase = .header → s.loader.header.length + 1 < 22 →
      s.loader.header.length ≠ 1 →
      exec (.flashByte b) s = .next { s with loader := { s.loader with
        header := s.loader.header ++ [b], crc := crcByte s.loader.crc b
        readPosition := s.loader.readPosition + 1 } })
    ∧ (∀ first, s.orders.state = .loading → s.loader.phase = .header → s.loader.header = [first] →
      256 * first.toNat + b.toNat ≠ 19201 → ∃ t, exec (.flashByte b) s = .next t ∧ t.orders.state = .halted
      ∧ t = { s with loader := t.loader, orders := t.orders, store := t.store })
    ∧ (s.orders.state ≠ .loading → exec (.flashByte b) s = .next s)
    ∧ (∀ first, s.orders.state = .loading → s.loader.phase = .header → s.loader.header = [first] →
      256 * first.toNat + b.toNat = 19201 → exec (.flashByte b) s = .next { s with loader := { s.loader with
        header := [first, b], crc := crcByte s.loader.crc b, readPosition := s.loader.readPosition + 1 } })
    ∧ (∀ h, s.orders.state = .loading → s.loader.phase = .header → s.loader.header.length = 21 →
      h = s.loader.header ++ [b] →
      (countsSound h → exec (.flashByte b) s = .next { s with loader := { s.loader with
        header := h, crc := crcByte s.loader.crc b, readPosition := s.loader.readPosition + 1
        phase := recordPhase h s.loader.plans.length s.loader.entries.length s.loader.pairs.length } })
      ∧ (¬ countsSound h → ∃ t, exec (.flashByte b) s = .next t ∧ t.orders.state = .halted
        ∧ t = { s with loader := t.loader, orders := t.orders, store := t.store }))
    ∧ (∀ bs l, s.orders.state = .loading → s.loader.phase = .records → bs = s.loader.partBytes ++ [b] →
      l = { s.loader with crc := crcByte s.loader.crc b, readPosition := s.loader.readPosition + 1 } →
      (s.loader.plans.length < byteAt s.loader.header 14 →
        (bs.length < 4 ∨ bs.length < 4 + 6 * byteAt bs 1 + 4 * byteAt bs 2 →
          exec (.flashByte b) s = .next { s with loader := { l with partBytes := bs } })
        ∧ (4 ≤ bs.length → 4 + 6 * byteAt bs 1 + 4 * byteAt bs 2 ≤ bs.length → ∃ p, planRecord bs p
          ∧ exec (.flashByte b) s = .next { s with loader := { l with
              plans := s.loader.plans ++ [p], partBytes := []
              phase := recordPhase s.loader.header (s.loader.plans.length + 1) s.loader.entries.length
                s.loader.pairs.length } }))
      ∧ (byteAt s.loader.header 14 ≤ s.loader.plans.length → s.loader.entries.length < byteAt s.loader.header 15 →
        (bs.length < 17 → exec (.flashByte b) s = .next { s with loader := { l with partBytes := bs } })
        ∧ (17 ≤ bs.length → ∃ e, entryRecord bs e
          ∧ exec (.flashByte b) s = .next { s with loader := { l with
              entries := s.loader.entries ++ [e], partBytes := []
              phase := recordPhase s.loader.header s.loader.plans.length (s.loader.entries.length + 1)
                s.loader.pairs.length } }))
      ∧ (byteAt s.loader.header 14 ≤ s.loader.plans.length → byteAt s.loader.header 15 ≤ s.loader.entries.length →
        (bs.length < 9 → exec (.flashByte b) s = .next { s with loader := { l with partBytes := bs } })
        ∧ (9 ≤ bs.length → exec (.flashByte b) s = .next { s with loader := { l with
              pairs := s.loader.pairs ++
                [{ number := byteAt bs 0, first := 65536 * wordAt bs 1 + wordAt bs 3
                   second := 65536 * wordAt bs 5 + wordAt bs 7 }]
              partBytes := []
              phase := recordPhase s.loader.header s.loader.plans.length s.loader.entries.length
                (s.loader.pairs.length + 1) } })))
    ∧ (s.orders.state = .loading → s.loader.phase = .check → s.loader.partBytes = [] →
      exec (.flashByte b) s = .next { s with loader := { s.loader with
        partBytes := [b], readPosition := s.loader.readPosition + 1 } })
    ∧ (∀ first, s.orders.state = .loading → s.loader.phase = .check → s.loader.partBytes = [first] →
      (256 * first.toNat + b.toNat ≠ s.loader.crc.toNat ∨ ¬ ImageSound s.loader →
        ∃ t, exec (.flashByte b) s = .next t ∧ t.orders.state = .halted
          ∧ t = { s with loader := t.loader, orders := t.orders, store := t.store }
          ∧ (s.store.state = .unset → t.store.state = .unset) ∧ t.store.setup = none)
      ∧ (256 * first.toNat + b.toNat = s.loader.crc.toNat → ImageSound s.loader →
        ∃ t, exec (.flashByte b) s = .next t ∧ TablesBuilt s.loader t.tables
          ∧ t = { s with
              tables := t.tables
              store := { s.store with setup := some (byteAt s.loader.header 13) }
              loader := { s.loader with
                phase := .audio, partBytes := [], audioEntry := 0, audioBurst := 0, hand := []
                readPosition := s.loader.readPosition + 1 } }))
    ∧ (s.orders.state = .loading → s.loader.phase = .audio →
      (s.loader.audioEntry < s.tables.directory.length → s.loader.hand.length < 16 →
        exec (.flashByte b) s = .next { s with loader := { s.loader with
          hand := s.loader.hand ++ [b], readPosition := s.loader.readPosition + 1 } })
      ∧ (s.tables.directory.length ≤ s.loader.audioEntry ∨ 16 ≤ s.loader.hand.length →
        exec (.flashByte b) s = .next s))

/-! ### The sample path -/

/-- Compressing the linear value of a code gives the code back, and a value that is compressed and expanded again
comes back within a step of its chord (R109, R110). -/
def Obligations.CodesSurviveTheLinearDomain : Prop :=
  (∀ k : Code, compress (expand k) = k)
    ∧ ∀ x : Int, -4095 ≤ x → x ≤ 4095 → (expand (compress x) - x).natAbs ≤ chordStep (chordOf x.natAbs)

/-! ### Whole-machine rules -/

/-- A station leaves HALTED by pin reset alone (R51). -/
def Obligations.HaltedUntilPinReset : Prop :=
  ∀ (s t : State), isHalted s → (∀ c rest, s.pending = c :: rest → isPinReset c = false) → step s = .next t → isHalted t

/-- The store's contents keep their one form through every step (R135). -/
def Obligations.StepKeepsTheContentsInForm : Prop :=
  ∀ s t : State, contentsOk s → step s = .next t → contentsOk t

/-- Listeners plus pending records never exceed 255 on a channel: every step keeps it (R61, R73). -/
def Obligations.StepKeepsCallersWithin255 : Prop :=
  ∀ s t : State, callersOk s → step s = .next t → callersOk t

/-- Channels are held in SERVING and DRAINING alone, and not in the halt countdown: every step keeps it (section 3.3,
R30, R51, R106). -/
def Obligations.StepKeepsHoldingToService : Prop :=
  ∀ s t : State, holdingOk s → step s = .next t → holdingOk t

/-- The station right after reset satisfies the conditions of the three invariants on the contents, the callers and the
holdings, and is not HALTED. That it is not HALTED rests on log entry 7: State.reset takes the station number pins to
read 0, and with the pins at 15 the station halts at once (R171). -/
def Obligations.ResetIsSound : Prop :=
  contentsOk State.reset ∧ callersOk State.reset ∧ holdingOk State.reset ∧ ¬ isHalted State.reset
end

