-- ==== Sys2Proof/Laws/Memory.lean ====
section
/-! SUPPORT. The store's contents: a read after a write, and the canonical form that every write keeps (R135). -/
namespace Sys2Proof.Machine

/-- A cell written reads as written. -/
theorem Memory.read_write_same (m : Memory) (a : Nat) (v : Code) : (m.write a v).read a = some v := by
  induction m with
  | nil => simp [Memory.write, Memory.read]
  | cons p rest ih =>
    obtain ⟨b, u⟩ := p
    simp only [Memory.write]
    split
    · simp [Memory.read]
    · split
      · simp [Memory.read]
      · simpa [Memory.read, ‹¬ a = b›] using ih

/-- A write leaves every other cell. -/
theorem Memory.read_write_ne (m : Memory) (a b : Nat) (v : Code) (h : b ≠ a) : (m.write a v).read b = m.read b := by
  induction m with
  | nil => simp [Memory.write, Memory.read, h]
  | cons p rest ih =>
    obtain ⟨c, u⟩ := p
    simp only [Memory.write]
    split
    · simp [Memory.read, h]
    · split
      · subst_vars
        simp [Memory.read, h]
      · simp only [Memory.read, ih]

/-- A run of codes written leaves every cell outside it. -/
theorem Memory.read_writeAll_outside (vs : List Code) : ∀ (m : Memory) (a b : Nat), b < a ∨ a + vs.length ≤ b →
    (m.writeAll a vs).read b = m.read b := by
  induction vs with
  | nil => intro m a b _; rfl
  | cons v rest ih =>
    intro m a b h
    simp only [List.length_cons] at h
    simp only [Memory.writeAll]
    rw [ih _ _ _ (by omega), Memory.read_write_ne _ _ _ _ (by omega)]

/-- A run of codes written reads back, code by code. -/
theorem Memory.read_writeAll_inside (vs : List Code) : ∀ (m : Memory) (a i : Nat), i < vs.length →
    (m.writeAll a vs).read (a + i) = vs[i]? := by
  induction vs with
  | nil => intro m a i h; simp at h
  | cons v rest ih =>
    intro m a i h
    cases i with
    | zero =>
      simp only [Memory.writeAll]
      rw [Memory.read_writeAll_outside _ _ _ _ (by omega)]
      simp [Memory.read_write_same]
    | succ i =>
      simp only [Memory.writeAll]
      rw [show a + (i + 1) = (a + 1) + i by omega, ih _ _ _ (by simpa using h)]
      simp

/-- Cells above a bound stay above it. -/
theorem Memory.write_head (m : Memory) (a k : Nat) (v : Code) (hk : k < a) (hm : ∀ p ∈ m, k < p.1) :
    ∀ p ∈ m.write a v, k < p.1 := by
  induction m with
  | nil => simpa [Memory.write] using hk
  | cons q rest ih =>
    obtain ⟨b, u⟩ := q
    simp only [Memory.write]
    intro p hp
    split at hp
    · rcases List.mem_cons.mp hp with rfl | hp
      · exact hk
      · exact hm p hp
    · split at hp
      · rcases List.mem_cons.mp hp with rfl | hp
        · exact hk
        · exact hm p (List.mem_cons_of_mem _ hp)
      · rcases List.mem_cons.mp hp with rfl | hp
        · exact hm _ List.mem_cons_self
        · exact ih (fun q hq => hm q (List.mem_cons_of_mem _ hq)) p hp

/-- The cells rise where the first lies below all others and these rise. -/
theorem Memory.rising_cons (a : Nat) (v : Code) (m : Memory) :
    Memory.rising ((a, v) :: m) = true ↔ (∀ p ∈ m, a < p.1) ∧ m.rising = true := by
  induction m generalizing a v with
  | nil => simp [Memory.rising]
  | cons q rest ih =>
    obtain ⟨b, u⟩ := q
    rw [Memory.rising, Bool.and_eq_true, decide_eq_true_eq]
    constructor
    · rintro ⟨h, hr⟩
      refine ⟨?_, hr⟩
      intro p hp
      rcases List.mem_cons.mp hp with rfl | hp
      · exact h
      · exact Nat.lt_trans h (((ih b u).mp hr).1 p hp)
    · rintro ⟨h, hr⟩
      exact ⟨h _ List.mem_cons_self, hr⟩

/-- A write keeps the cells rising. -/
theorem Memory.write_rising (m : Memory) (a : Nat) (v : Code) (h : m.rising = true) : (m.write a v).rising = true := by
  induction m with
  | nil => rfl
  | cons q rest ih =>
    obtain ⟨b, u⟩ := q
    obtain ⟨hb, hr⟩ := (Memory.rising_cons b u rest).mp h
    simp only [Memory.write]
    split
    · refine (Memory.rising_cons a v _).mpr ⟨?_, h⟩
      intro p hp
      rcases List.mem_cons.mp hp with rfl | hp
      · assumption
      · exact Nat.lt_trans ‹a < b› (hb p hp)
    · split
      · subst_vars
        exact (Memory.rising_cons b v rest).mpr ⟨hb, hr⟩
      · exact (Memory.rising_cons b u _).mpr ⟨Memory.write_head rest a b v (by omega) hb, ih hr⟩

/-- Every cell of a written list is one of the list's or the cell written. -/
theorem Memory.mem_write (m : Memory) (a : Nat) (v : Code) (p : Host.Cell) (hp : p ∈ m.write a v) : p = (a, v) ∨ p ∈ m := by
  induction m with
  | nil => exact Or.inl (by simpa [Memory.write] using hp)
  | cons q rest ih =>
    obtain ⟨b, u⟩ := q
    simp only [Memory.write] at hp
    split at hp
    · exact List.mem_cons.mp hp
    · split at hp
      · rcases List.mem_cons.mp hp with rfl | hp
        · exact Or.inl rfl
        · exact Or.inr (List.mem_cons_of_mem _ hp)
      · rcases List.mem_cons.mp hp with rfl | hp
        · exact Or.inr List.mem_cons_self
        · exact (ih hp).imp id (List.mem_cons_of_mem _)

/-- A write within the store keeps the canonical form. -/
theorem Memory.write_wf (m : Memory) (a : Nat) (v : Code) (ha : a < cellCount) (h : m.wf = true) :
    (m.write a v).wf = true := by
  simp only [Memory.wf, Bool.and_eq_true, List.all_eq_true, decide_eq_true_eq] at h ⊢
  refine ⟨Memory.write_rising m a v h.1, ?_⟩
  intro p hp
  rcases Memory.mem_write m a v p hp with rfl | hp
  · exact ha
  · exact h.2 p hp

/-- A run of writes within the store keeps the canonical form. -/
theorem Memory.writeAll_wf (vs : List Code) : ∀ (m : Memory) (a : Nat), a + vs.length ≤ cellCount → m.wf = true →
    (m.writeAll a vs).wf = true := by
  induction vs with
  | nil => intro m a _ h; exact h
  | cons v rest ih =>
    intro m a ha h
    simp only [List.length_cons] at ha
    simp only [Memory.writeAll]
    exact ih _ _ (by omega) (Memory.write_wf m a v (by omega) h)

/-- The contents after reset are in the canonical form: no cell is listed. -/
theorem reset_memory_wf : State.reset.store.memory.wf = true := rfl

/-- The contents after HALTED is entered are in the canonical form. -/
theorem halt_memory_wf (t : Store) : t.halt.memory.wf = true := rfl

end Sys2Proof.Machine
end

