-- ==== Sys2Proof/Laws/Ops.lean ====
section
/-! SUPPORT. What the shared operations can do, once for each: running a meaning, an event that may be due, work of
every channel and every engine, posting notices, and returning channels. -/
namespace Sys2Proof.Machine

/-! ### Running a meaning -/

theorem State.run_next (s t : State) (f : Station → Station) (h : s.run f = .next t) :
    t = { s with toStation := f s.toStation } := by
  simpa [State.run] using h.symm

theorem State.runChannel_next (s t : State) (c : Nat) (f : Channel → Station → Station)
    (h : s.runChannel c f = .next t) : ∃ hc : c < 48, t = { s with toStation := f ⟨c, hc⟩ s.toStation } := by
  unfold State.runChannel at h
  split at h
  · exact ⟨‹_›, State.run_next s t _ h⟩
  · cases h

theorem State.runBank_next (s t : State) (b : Nat) (f : Fin 8 → Station → Station) (h : s.runBank b f = .next t) :
    ∃ hb : b < 8, t = { s with toStation := f ⟨b, hb⟩ s.toStation } := by
  unfold State.runBank at h
  split at h
  · exact ⟨‹_›, State.run_next s t _ h⟩
  · cases h

theorem State.runEngine_next (s t : State) (e : Nat) (f : Fin 16 → Station → Station) (h : s.runEngine e f = .next t) :
    ∃ he : e < 16, t = { s with toStation := f ⟨e, he⟩ s.toStation } := by
  unfold State.runEngine at h
  split at h
  · exact ⟨‹_›, State.run_next s t _ h⟩
  · cases h

/-- A property of the station that an event keeps, it keeps whether or not the event is due. -/
theorem whenDue_keeps (P : Station → Prop) (due : Bool) (f : Station → Station) (s : Station)
    (hf : due = true → P s → P (f s)) (hs : P s) : P (whenDue due f s) := by
  unfold whenDue
  split
  · exact hf ‹_› hs
  · exact hs

@[simp] theorem whenDue_true (f : Station → Station) (s : Station) : whenDue true f s = f s := rfl

@[simp] theorem whenDue_false (f : Station → Station) (s : Station) : whenDue false f s = s := rfl

/-! ### Work of every channel and every engine -/

/-- A property that every step of a fold keeps, the fold keeps. -/
theorem foldl_keeps {α β : Type} (P : α → Prop) (f : α → β → α) (l : List β)
    (hf : ∀ a b, P a → P (f a b)) : ∀ a, P a → P (l.foldl f a) := by
  induction l with
  | nil => intro a ha; exact ha
  | cons b bs ih => intro a ha; exact ih _ (hf a b ha)

theorem eachChannel_keeps {α : Type} (P : α → Prop) (f : Channel → α → α) (hf : ∀ c a, P a → P (f c a)) (a : α)
    (ha : P a) : P (eachChannel f a) := foldl_keeps P _ _ (fun a c => hf c a) a ha

theorem eachEngine_keeps (P : Station → Prop) (f : Fin 16 → Station → Station) (hf : ∀ e s, P s → P (f e s))
    (s : Station) (hs : P s) : P (eachEngine f s) := foldl_keeps P _ _ (fun s e => hf e s) s hs

/-- A part of the station that every channel's work leaves, the work of all channels leaves. -/
theorem eachChannel_leaves {α β : Type} (part : α → β) (f : Channel → α → α) (hf : ∀ c a, part (f c a) = part a)
    (a : α) : part (eachChannel f a) = part a :=
  eachChannel_keeps (fun x => part x = part a) f (fun c x hx => (hf c x).trans hx) a rfl

theorem eachEngine_leaves {β : Type} (part : Station → β) (f : Fin 16 → Station → Station)
    (hf : ∀ e s, part (f e s) = part s) (s : Station) : part (eachEngine f s) = part s :=
  eachEngine_keeps (fun x => part x = part s) f (fun e x hx => (hf e x).trans hx) s rfl

/-! ### Notices (R52) -/

/-- Posting a notice touches the order unit alone. -/
theorem post_eq (n : Notice) (s : Station) : ∃ o, post n s = { s with orders := o } := by
  unfold post
  split
  · exact ⟨_, rfl⟩
  · exact ⟨s.orders, rfl⟩

/-- Of the order unit, posting a notice touches the latch, the missed set and the driven mark alone. -/
theorem take_eq (o : OrderUnit) (n : Notice) :
    ∃ l m d, o.take n = { o with latch := l, missed := m, drivenStands := d } := by
  unfold OrderUnit.take
  split
  · exact ⟨_, o.missed, _, rfl⟩
  · split
    · exact ⟨_, _, _, rfl⟩
    · exact ⟨o.latch, _, o.drivenStands, rfl⟩

/-- Posting changes the latch, the missed set and the driven mark, and nothing else of the station. -/
theorem post_changes (n : Notice) (s : Station) :
    ∃ l m d, post n s = { s with orders := { s.orders with latch := l, missed := m, drivenStands := d } } := by
  unfold post
  split
  · obtain ⟨l, m, d, h⟩ := take_eq s.orders n
    exact ⟨l, m, d, by rw [h]⟩
  · exact ⟨s.orders.latch, s.orders.missed, s.orders.drivenStands, rfl⟩

/-- A notice that meets an empty latch is latched (R52). -/
theorem post_empty (n : Notice) (s : Station) (ha : s.orders.state.answers = true) (hl : s.orders.latch = none) :
    (post n s).orders.latch = some n := by
  simp [post, ha, OrderUnit.take, hl, OrderUnit.latchNotice]

/-- Posting several notices changes the latch, the missed set and the driven mark alone. -/
theorem postAll_changes (ns : List Notice) (s : Station) :
    ∃ l m d, postAll ns s = { s with orders := { s.orders with latch := l, missed := m, drivenStands := d } } := by
  refine foldl_keeps
    (fun t => ∃ l m d, t = { s with orders := { s.orders with latch := l, missed := m, drivenStands := d } })
    (fun s n => post n s) ns ?_ s ⟨s.orders.latch, s.orders.missed, s.orders.drivenStands, rfl⟩
  rintro t n ⟨l, m, d, rfl⟩
  obtain ⟨l', m', d', h⟩ := post_changes n { s with orders := { s.orders with latch := l, missed := m, drivenStands := d } }
  exact ⟨l', m', d', h⟩

/-! ### Channels returned and dropped (R26, R28) -/

/-- A returned channel is POOL where the pool is below the target, and NONE otherwise (R26). -/
theorem returnChannel_holding (target : Nat) (c : Channel) (s : Station) :
    (returnChannel target c s).table.holding.get c = if s.table.pool.length < target then .pool else .none := by
  simp only [returnChannel]
  split <;> simp [ChannelTable.hold]

/-- A return leaves every other channel's holding (R26). -/
theorem returnChannel_other (target : Nat) (c d : Channel) (s : Station) (h : c ≠ d) :
    (returnChannel target c s).table.holding.get d = s.table.holding.get d := by
  simp only [returnChannel]
  split <;> simp [ChannelTable.hold, h]

/-- A return touches the channel table and the formed code alone. -/
theorem returnChannel_changes (target : Nat) (c : Channel) (s : Station) :
    ∃ t f, returnChannel target c s = { s with table := t, formed := f } := by
  simp only [returnChannel]
  split <;> exact ⟨_, _, rfl⟩

/-- Tearing a channel down touches the channel table, the engines and the recorder alone (R28). -/
theorem tearDown_changes (c : Channel) (s : Station) :
    ∃ t e r, tearDown c s = { s with table := t, engines := e, recorder := r } := by
  unfold tearDown
  split <;> exact ⟨_, _, _, rfl⟩

/-- A dropped channel is in NONE (R28). -/
theorem dropChannel_holding (c : Channel) (s : Station) : (dropChannel c s).table.holding.get c = .none := by
  simp [dropChannel, ChannelTable.hold]

/-- Dropping a channel touches the channel table, the formed codes, the engines and the recorder alone (R28). -/
theorem dropChannel_changes (c : Channel) (s : Station) :
    ∃ t f e r, dropChannel c s = { s with table := t, formed := f, engines := e, recorder := r } := by
  obtain ⟨t, e, r, h⟩ := tearDown_changes c s
  simp only [dropChannel, h]
  exact ⟨_, _, _, _, rfl⟩

/-! ### Taking the order due (R36) -/

/-- An order is due only in a reply position of a station that acts on orders. -/
theorem dueOrder_some (s : Station) (o : Order) (h : dueOrder s = some o) :
    replyOpen s = true ∧ actsOnOrders s = true ∧ ∃ w ∈ s.orders.list, w.due = true ∧ w.order = o := by
  unfold dueOrder at h
  split at h
  · rename_i hc
    simp only [Bool.and_eq_true] at hc
    obtain ⟨w, hw, rfl⟩ := Option.map_eq_some_iff.mp h
    exact ⟨hc.1, hc.2, w, List.mem_of_find?_eq_some hw, List.find?_some hw, rfl⟩
  · cases h

/-! ### Claims settled -/

/-- A release changes the table alone, and takes the newest place off the pool. -/
theorem releaseNewest_cases (s : Station) :
    (s.table.pool = [] ∧ releaseNewest s = s)
    ∨ ∃ rest x, s.table.pool = rest ++ [x]
      ∧ releaseNewest s = { s with table := { s.table.hold x .none with pool := rest } } := by
  rcases List.eq_nil_or_concat s.table.pool with h | ⟨rest, x, h⟩
  · exact .inl ⟨h, by simp [releaseNewest, h]⟩
  · exact .inr ⟨rest, x, by simpa using h, by simp [releaseNewest, h]⟩

/-- What the outcome of a claim changes: the pool, of which the newest place goes first where it holds 4, or the back-off
list. -/
theorem settleClaim_cases (c : Channel) (won : Bool) (s : Station) :
    (won = true ∧ s.table.pool.length < 4
      ∧ settleClaim c won s = { s with table := { s.table.hold c .pool with pool := s.table.pool ++ [c] } })
    ∨ (won = true ∧ ∃ rest x, s.table.pool = rest ++ [x] ∧ 3 ≤ rest.length
      ∧ settleClaim c won s =
          { s with table := { (s.table.hold x .none).hold c .pool with pool := rest ++ [c] } })
    ∨ (won = false ∧ settleClaim c won s =
        { s with table := { s.table with backOff := s.table.backOff ++ [{ channel := c, left := 16 }] } }) := by
  unfold settleClaim poolRoom whenDue
  cases won
  · exact .inr (.inr ⟨rfl, rfl⟩)
  · by_cases h : s.table.pool.length < 4
    · exact .inl ⟨rfl, h, by simp [h]⟩
    · obtain ⟨hp, -⟩ | ⟨rest, x, hp, hr⟩ := releaseNewest_cases s
      · simp [hp] at h
      · refine .inr (.inl ⟨rfl, rest, x, hp, ?_, ?_⟩)
        · simp [hp] at h; omega
        · simp only [h, decide_false, Bool.not_false, if_true, hr]
          rfl

theorem settleClaim_pool_le (c : Channel) (won : Bool) (s : Station) (h : s.table.pool.length ≤ 4) :
    (settleClaim c won s).table.pool.length ≤ 4 := by
  obtain ⟨-, hp, e⟩ | ⟨-, rest, x, hp, -, e⟩ | ⟨-, e⟩ := settleClaim_cases c won s <;> rw [e]
  · simp; omega
  · simp [hp] at h ⊢; omega
  · exact h

end Sys2Proof.Machine
end

