-- ==== Sys2Proof/Laws/State.lean ====
section
/-! SUPPORT. What each named update of the station leaves and changes, field by field: the small lemmas that later
proofs rewrite with instead of unfolding an update. -/
namespace Sys2Proof.Machine

/-! ### setHolding -/

@[simp] theorem setHolding_number (c : Channel) (h : Holding) (s : Station) : (setHolding c h s).number = s.number := rfl
@[simp] theorem setHolding_port (c : Channel) (h : Holding) (s : Station) : (setHolding c h s).port = s.port := rfl
@[simp] theorem setHolding_orders (c : Channel) (h : Holding) (s : Station) : (setHolding c h s).orders = s.orders := rfl
@[simp] theorem setHolding_offer (c : Channel) (h : Holding) (s : Station) : (setHolding c h s).offer = s.offer := rfl
@[simp] theorem setHolding_formed (c : Channel) (h : Holding) (s : Station) : (setHolding c h s).formed = s.formed := rfl
@[simp] theorem setHolding_engines (c : Channel) (h : Holding) (s : Station) : (setHolding c h s).engines = s.engines := rfl
@[simp] theorem setHolding_store (c : Channel) (h : Holding) (s : Station) : (setHolding c h s).store = s.store := rfl
@[simp] theorem setHolding_monitor (c : Channel) (h : Holding) (s : Station) : (setHolding c h s).monitor = s.monitor := rfl
@[simp] theorem setHolding_recorder (c : Channel) (h : Holding) (s : Station) : (setHolding c h s).recorder = s.recorder := rfl
@[simp] theorem setHolding_tables (c : Channel) (h : Holding) (s : Station) : (setHolding c h s).tables = s.tables := rfl
@[simp] theorem setHolding_loader (c : Channel) (h : Holding) (s : Station) : (setHolding c h s).loader = s.loader := rfl
@[simp] theorem setHolding_draw (c : Channel) (h : Holding) (s : Station) : (setHolding c h s).draw = s.draw := rfl

/-! ### takeInto -/

@[simp] theorem takeInto_number (c : Channel) (h : Holding) (s : Station) : (takeInto c h s).number = s.number := rfl
@[simp] theorem takeInto_port (c : Channel) (h : Holding) (s : Station) : (takeInto c h s).port = s.port := rfl
@[simp] theorem takeInto_orders (c : Channel) (h : Holding) (s : Station) : (takeInto c h s).orders = s.orders := rfl
@[simp] theorem takeInto_offer (c : Channel) (h : Holding) (s : Station) : (takeInto c h s).offer = s.offer := rfl
@[simp] theorem takeInto_formed (c : Channel) (h : Holding) (s : Station) : (takeInto c h s).formed = s.formed := rfl
@[simp] theorem takeInto_engines (c : Channel) (h : Holding) (s : Station) : (takeInto c h s).engines = s.engines := rfl
@[simp] theorem takeInto_store (c : Channel) (h : Holding) (s : Station) : (takeInto c h s).store = s.store := rfl
@[simp] theorem takeInto_monitor (c : Channel) (h : Holding) (s : Station) : (takeInto c h s).monitor = s.monitor := rfl
@[simp] theorem takeInto_recorder (c : Channel) (h : Holding) (s : Station) : (takeInto c h s).recorder = s.recorder := rfl
@[simp] theorem takeInto_tables (c : Channel) (h : Holding) (s : Station) : (takeInto c h s).tables = s.tables := rfl
@[simp] theorem takeInto_loader (c : Channel) (h : Holding) (s : Station) : (takeInto c h s).loader = s.loader := rfl
@[simp] theorem takeInto_draw (c : Channel) (h : Holding) (s : Station) : (takeInto c h s).draw = s.draw := rfl

/-! ### setEngine -/

@[simp] theorem setEngine_number (e : Fin 16) (eng : Engine) (s : Station) : (setEngine e eng s).number = s.number := rfl
@[simp] theorem setEngine_port (e : Fin 16) (eng : Engine) (s : Station) : (setEngine e eng s).port = s.port := rfl
@[simp] theorem setEngine_table (e : Fin 16) (eng : Engine) (s : Station) : (setEngine e eng s).table = s.table := rfl
@[simp] theorem setEngine_orders (e : Fin 16) (eng : Engine) (s : Station) : (setEngine e eng s).orders = s.orders := rfl
@[simp] theorem setEngine_offer (e : Fin 16) (eng : Engine) (s : Station) : (setEngine e eng s).offer = s.offer := rfl
@[simp] theorem setEngine_formed (e : Fin 16) (eng : Engine) (s : Station) : (setEngine e eng s).formed = s.formed := rfl
@[simp] theorem setEngine_store (e : Fin 16) (eng : Engine) (s : Station) : (setEngine e eng s).store = s.store := rfl
@[simp] theorem setEngine_monitor (e : Fin 16) (eng : Engine) (s : Station) : (setEngine e eng s).monitor = s.monitor := rfl
@[simp] theorem setEngine_recorder (e : Fin 16) (eng : Engine) (s : Station) : (setEngine e eng s).recorder = s.recorder := rfl
@[simp] theorem setEngine_tables (e : Fin 16) (eng : Engine) (s : Station) : (setEngine e eng s).tables = s.tables := rfl
@[simp] theorem setEngine_loader (e : Fin 16) (eng : Engine) (s : Station) : (setEngine e eng s).loader = s.loader := rfl
@[simp] theorem setEngine_draw (e : Fin 16) (eng : Engine) (s : Station) : (setEngine e eng s).draw = s.draw := rfl

/-! ### bindEngine -/

@[simp] theorem bindEngine_number (e : Fin 16) (c : Channel) (a : Area) (s : Station) : (bindEngine e c a s).number = s.number := rfl
@[simp] theorem bindEngine_port (e : Fin 16) (c : Channel) (a : Area) (s : Station) : (bindEngine e c a s).port = s.port := rfl
@[simp] theorem bindEngine_table (e : Fin 16) (c : Channel) (a : Area) (s : Station) : (bindEngine e c a s).table = s.table := rfl
@[simp] theorem bindEngine_orders (e : Fin 16) (c : Channel) (a : Area) (s : Station) : (bindEngine e c a s).orders = s.orders := rfl
@[simp] theorem bindEngine_offer (e : Fin 16) (c : Channel) (a : Area) (s : Station) : (bindEngine e c a s).offer = s.offer := rfl
@[simp] theorem bindEngine_formed (e : Fin 16) (c : Channel) (a : Area) (s : Station) : (bindEngine e c a s).formed = s.formed := rfl
@[simp] theorem bindEngine_store (e : Fin 16) (c : Channel) (a : Area) (s : Station) : (bindEngine e c a s).store = s.store := rfl
@[simp] theorem bindEngine_monitor (e : Fin 16) (c : Channel) (a : Area) (s : Station) : (bindEngine e c a s).monitor = s.monitor := rfl
@[simp] theorem bindEngine_recorder (e : Fin 16) (c : Channel) (a : Area) (s : Station) : (bindEngine e c a s).recorder = s.recorder := rfl
@[simp] theorem bindEngine_tables (e : Fin 16) (c : Channel) (a : Area) (s : Station) : (bindEngine e c a s).tables = s.tables := rfl
@[simp] theorem bindEngine_loader (e : Fin 16) (c : Channel) (a : Area) (s : Station) : (bindEngine e c a s).loader = s.loader := rfl
@[simp] theorem bindEngine_draw (e : Fin 16) (c : Channel) (a : Area) (s : Station) : (bindEngine e c a s).draw = s.draw := rfl

/-! ### countUnderrun -/

@[simp] theorem countUnderrun_number (e : Fin 16) (s : Station) : (countUnderrun e s).number = s.number := rfl
@[simp] theorem countUnderrun_port (e : Fin 16) (s : Station) : (countUnderrun e s).port = s.port := rfl
@[simp] theorem countUnderrun_table (e : Fin 16) (s : Station) : (countUnderrun e s).table = s.table := rfl
@[simp] theorem countUnderrun_orders (e : Fin 16) (s : Station) : (countUnderrun e s).orders = s.orders := rfl
@[simp] theorem countUnderrun_offer (e : Fin 16) (s : Station) : (countUnderrun e s).offer = s.offer := rfl
@[simp] theorem countUnderrun_formed (e : Fin 16) (s : Station) : (countUnderrun e s).formed = s.formed := rfl
@[simp] theorem countUnderrun_store (e : Fin 16) (s : Station) : (countUnderrun e s).store = s.store := rfl
@[simp] theorem countUnderrun_monitor (e : Fin 16) (s : Station) : (countUnderrun e s).monitor = s.monitor := rfl
@[simp] theorem countUnderrun_recorder (e : Fin 16) (s : Station) : (countUnderrun e s).recorder = s.recorder := rfl
@[simp] theorem countUnderrun_tables (e : Fin 16) (s : Station) : (countUnderrun e s).tables = s.tables := rfl
@[simp] theorem countUnderrun_loader (e : Fin 16) (s : Station) : (countUnderrun e s).loader = s.loader := rfl
@[simp] theorem countUnderrun_draw (e : Fin 16) (s : Station) : (countUnderrun e s).draw = s.draw := rfl

/-! ### freeEngineSlot -/

@[simp] theorem freeEngineSlot_number (e : Fin 16) (s : Station) : (freeEngineSlot e s).number = s.number := rfl
@[simp] theorem freeEngineSlot_port (e : Fin 16) (s : Station) : (freeEngineSlot e s).port = s.port := rfl
@[simp] theorem freeEngineSlot_table (e : Fin 16) (s : Station) : (freeEngineSlot e s).table = s.table := rfl
@[simp] theorem freeEngineSlot_orders (e : Fin 16) (s : Station) : (freeEngineSlot e s).orders = s.orders := rfl
@[simp] theorem freeEngineSlot_offer (e : Fin 16) (s : Station) : (freeEngineSlot e s).offer = s.offer := rfl
@[simp] theorem freeEngineSlot_formed (e : Fin 16) (s : Station) : (freeEngineSlot e s).formed = s.formed := rfl
@[simp] theorem freeEngineSlot_store (e : Fin 16) (s : Station) : (freeEngineSlot e s).store = s.store := rfl
@[simp] theorem freeEngineSlot_monitor (e : Fin 16) (s : Station) : (freeEngineSlot e s).monitor = s.monitor := rfl
@[simp] theorem freeEngineSlot_recorder (e : Fin 16) (s : Station) : (freeEngineSlot e s).recorder = s.recorder := rfl
@[simp] theorem freeEngineSlot_tables (e : Fin 16) (s : Station) : (freeEngineSlot e s).tables = s.tables := rfl
@[simp] theorem freeEngineSlot_loader (e : Fin 16) (s : Station) : (freeEngineSlot e s).loader = s.loader := rfl
@[simp] theorem freeEngineSlot_draw (e : Fin 16) (s : Station) : (freeEngineSlot e s).draw = s.draw := rfl

/-! ### dropAll -/

@[simp] theorem dropAll_number (s : Station) : (dropAll s).number = s.number := rfl
@[simp] theorem dropAll_port (s : Station) : (dropAll s).port = s.port := rfl
@[simp] theorem dropAll_orders (s : Station) : (dropAll s).orders = s.orders := rfl
@[simp] theorem dropAll_offer (s : Station) : (dropAll s).offer = s.offer := rfl
@[simp] theorem dropAll_store (s : Station) : (dropAll s).store = s.store := rfl
@[simp] theorem dropAll_monitor (s : Station) : (dropAll s).monitor = s.monitor := rfl
@[simp] theorem dropAll_tables (s : Station) : (dropAll s).tables = s.tables := rfl
@[simp] theorem dropAll_loader (s : Station) : (dropAll s).loader = s.loader := rfl
@[simp] theorem dropAll_draw (s : Station) : (dropAll s).draw = s.draw := rfl

/-! ### enterHalted -/

@[simp] theorem enterHalted_number (s : Station) : (enterHalted s).number = s.number := rfl
@[simp] theorem enterHalted_port (s : Station) : (enterHalted s).port = s.port := rfl
@[simp] theorem enterHalted_table (s : Station) : (enterHalted s).table = s.table := rfl
@[simp] theorem enterHalted_offer (s : Station) : (enterHalted s).offer = s.offer := rfl
@[simp] theorem enterHalted_formed (s : Station) : (enterHalted s).formed = s.formed := rfl
@[simp] theorem enterHalted_engines (s : Station) : (enterHalted s).engines = s.engines := rfl
@[simp] theorem enterHalted_monitor (s : Station) : (enterHalted s).monitor = s.monitor := rfl
@[simp] theorem enterHalted_recorder (s : Station) : (enterHalted s).recorder = s.recorder := rfl
@[simp] theorem enterHalted_tables (s : Station) : (enterHalted s).tables = s.tables := rfl
@[simp] theorem enterHalted_loader (s : Station) : (enterHalted s).loader = s.loader := rfl
@[simp] theorem enterHalted_draw (s : Station) : (enterHalted s).draw = s.draw := rfl

/-! ### driveReply -/

@[simp] theorem driveReply_number (w : Word) (s : Station) : (driveReply w s).number = s.number := rfl
@[simp] theorem driveReply_table (w : Word) (s : Station) : (driveReply w s).table = s.table := rfl
@[simp] theorem driveReply_orders (w : Word) (s : Station) : (driveReply w s).orders = s.orders := rfl
@[simp] theorem driveReply_offer (w : Word) (s : Station) : (driveReply w s).offer = s.offer := rfl
@[simp] theorem driveReply_formed (w : Word) (s : Station) : (driveReply w s).formed = s.formed := rfl
@[simp] theorem driveReply_engines (w : Word) (s : Station) : (driveReply w s).engines = s.engines := rfl
@[simp] theorem driveReply_store (w : Word) (s : Station) : (driveReply w s).store = s.store := rfl
@[simp] theorem driveReply_monitor (w : Word) (s : Station) : (driveReply w s).monitor = s.monitor := rfl
@[simp] theorem driveReply_recorder (w : Word) (s : Station) : (driveReply w s).recorder = s.recorder := rfl
@[simp] theorem driveReply_tables (w : Word) (s : Station) : (driveReply w s).tables = s.tables := rfl
@[simp] theorem driveReply_loader (w : Word) (s : Station) : (driveReply w s).loader = s.loader := rfl
@[simp] theorem driveReply_draw (w : Word) (s : Station) : (driveReply w s).draw = s.draw := rfl

/-! ### takeOrder -/

@[simp] theorem takeOrder_number (s : Station) : (takeOrder s).number = s.number := rfl
@[simp] theorem takeOrder_port (s : Station) : (takeOrder s).port = s.port := rfl
@[simp] theorem takeOrder_table (s : Station) : (takeOrder s).table = s.table := rfl
@[simp] theorem takeOrder_offer (s : Station) : (takeOrder s).offer = s.offer := rfl
@[simp] theorem takeOrder_formed (s : Station) : (takeOrder s).formed = s.formed := rfl
@[simp] theorem takeOrder_engines (s : Station) : (takeOrder s).engines = s.engines := rfl
@[simp] theorem takeOrder_store (s : Station) : (takeOrder s).store = s.store := rfl
@[simp] theorem takeOrder_monitor (s : Station) : (takeOrder s).monitor = s.monitor := rfl
@[simp] theorem takeOrder_recorder (s : Station) : (takeOrder s).recorder = s.recorder := rfl
@[simp] theorem takeOrder_tables (s : Station) : (takeOrder s).tables = s.tables := rfl
@[simp] theorem takeOrder_loader (s : Station) : (takeOrder s).loader = s.loader := rfl
@[simp] theorem takeOrder_draw (s : Station) : (takeOrder s).draw = s.draw := rfl

/-! ### dropOffer -/

@[simp] theorem dropOffer_number (s : Station) : (dropOffer s).number = s.number := rfl
@[simp] theorem dropOffer_port (s : Station) : (dropOffer s).port = s.port := rfl
@[simp] theorem dropOffer_table (s : Station) : (dropOffer s).table = s.table := rfl
@[simp] theorem dropOffer_orders (s : Station) : (dropOffer s).orders = s.orders := rfl
@[simp] theorem dropOffer_formed (s : Station) : (dropOffer s).formed = s.formed := rfl
@[simp] theorem dropOffer_engines (s : Station) : (dropOffer s).engines = s.engines := rfl
@[simp] theorem dropOffer_store (s : Station) : (dropOffer s).store = s.store := rfl
@[simp] theorem dropOffer_monitor (s : Station) : (dropOffer s).monitor = s.monitor := rfl
@[simp] theorem dropOffer_recorder (s : Station) : (dropOffer s).recorder = s.recorder := rfl
@[simp] theorem dropOffer_tables (s : Station) : (dropOffer s).tables = s.tables := rfl
@[simp] theorem dropOffer_loader (s : Station) : (dropOffer s).loader = s.loader := rfl
@[simp] theorem dropOffer_draw (s : Station) : (dropOffer s).draw = s.draw := rfl

/-! ### removeBackOff -/

@[simp] theorem removeBackOff_number (c : Channel) (s : Station) : (removeBackOff c s).number = s.number := rfl
@[simp] theorem removeBackOff_port (c : Channel) (s : Station) : (removeBackOff c s).port = s.port := rfl
@[simp] theorem removeBackOff_orders (c : Channel) (s : Station) : (removeBackOff c s).orders = s.orders := rfl
@[simp] theorem removeBackOff_offer (c : Channel) (s : Station) : (removeBackOff c s).offer = s.offer := rfl
@[simp] theorem removeBackOff_formed (c : Channel) (s : Station) : (removeBackOff c s).formed = s.formed := rfl
@[simp] theorem removeBackOff_engines (c : Channel) (s : Station) : (removeBackOff c s).engines = s.engines := rfl
@[simp] theorem removeBackOff_store (c : Channel) (s : Station) : (removeBackOff c s).store = s.store := rfl
@[simp] theorem removeBackOff_monitor (c : Channel) (s : Station) : (removeBackOff c s).monitor = s.monitor := rfl
@[simp] theorem removeBackOff_recorder (c : Channel) (s : Station) : (removeBackOff c s).recorder = s.recorder := rfl
@[simp] theorem removeBackOff_tables (c : Channel) (s : Station) : (removeBackOff c s).tables = s.tables := rfl
@[simp] theorem removeBackOff_loader (c : Channel) (s : Station) : (removeBackOff c s).loader = s.loader := rfl
@[simp] theorem removeBackOff_draw (c : Channel) (s : Station) : (removeBackOff c s).draw = s.draw := rfl

/-! ### enterState -/

@[simp] theorem enterState_number (st : StationState) (s : Station) : (enterState st s).number = s.number := rfl
@[simp] theorem enterState_port (st : StationState) (s : Station) : (enterState st s).port = s.port := rfl
@[simp] theorem enterState_table (st : StationState) (s : Station) : (enterState st s).table = s.table := rfl
@[simp] theorem enterState_offer (st : StationState) (s : Station) : (enterState st s).offer = s.offer := rfl
@[simp] theorem enterState_formed (st : StationState) (s : Station) : (enterState st s).formed = s.formed := rfl
@[simp] theorem enterState_engines (st : StationState) (s : Station) : (enterState st s).engines = s.engines := rfl
@[simp] theorem enterState_store (st : StationState) (s : Station) : (enterState st s).store = s.store := rfl
@[simp] theorem enterState_monitor (st : StationState) (s : Station) : (enterState st s).monitor = s.monitor := rfl
@[simp] theorem enterState_recorder (st : StationState) (s : Station) : (enterState st s).recorder = s.recorder := rfl
@[simp] theorem enterState_tables (st : StationState) (s : Station) : (enterState st s).tables = s.tables := rfl
@[simp] theorem enterState_loader (st : StationState) (s : Station) : (enterState st s).loader = s.loader := rfl
@[simp] theorem enterState_draw (st : StationState) (s : Station) : (enterState st s).draw = s.draw := rfl

/-! ### enterResting -/

@[simp] theorem enterResting_number (s : Station) : (enterResting s).number = s.number := rfl
@[simp] theorem enterResting_port (s : Station) : (enterResting s).port = s.port := rfl
@[simp] theorem enterResting_table (s : Station) : (enterResting s).table = s.table := rfl
@[simp] theorem enterResting_offer (s : Station) : (enterResting s).offer = s.offer := rfl
@[simp] theorem enterResting_formed (s : Station) : (enterResting s).formed = s.formed := rfl
@[simp] theorem enterResting_engines (s : Station) : (enterResting s).engines = s.engines := rfl
@[simp] theorem enterResting_monitor (s : Station) : (enterResting s).monitor = s.monitor := rfl
@[simp] theorem enterResting_recorder (s : Station) : (enterResting s).recorder = s.recorder := rfl
@[simp] theorem enterResting_tables (s : Station) : (enterResting s).tables = s.tables := rfl
@[simp] theorem enterResting_loader (s : Station) : (enterResting s).loader = s.loader := rfl
@[simp] theorem enterResting_draw (s : Station) : (enterResting s).draw = s.draw := rfl

/-! ### beginServing -/

@[simp] theorem beginServing_number (s : Station) : (beginServing s).number = s.number := rfl
@[simp] theorem beginServing_port (s : Station) : (beginServing s).port = s.port := rfl
@[simp] theorem beginServing_table (s : Station) : (beginServing s).table = s.table := rfl
@[simp] theorem beginServing_offer (s : Station) : (beginServing s).offer = s.offer := rfl
@[simp] theorem beginServing_formed (s : Station) : (beginServing s).formed = s.formed := rfl
@[simp] theorem beginServing_engines (s : Station) : (beginServing s).engines = s.engines := rfl
@[simp] theorem beginServing_store (s : Station) : (beginServing s).store = s.store := rfl
@[simp] theorem beginServing_monitor (s : Station) : (beginServing s).monitor = s.monitor := rfl
@[simp] theorem beginServing_recorder (s : Station) : (beginServing s).recorder = s.recorder := rfl
@[simp] theorem beginServing_tables (s : Station) : (beginServing s).tables = s.tables := rfl
@[simp] theorem beginServing_loader (s : Station) : (beginServing s).loader = s.loader := rfl
@[simp] theorem beginServing_draw (s : Station) : (beginServing s).draw = s.draw := rfl

/-! ### openFrame -/

@[simp] theorem openFrame_number (n : Nat) (s : Station) : (openFrame n s).number = s.number := rfl
@[simp] theorem openFrame_engines (n : Nat) (s : Station) : (openFrame n s).engines = s.engines := rfl
@[simp] theorem openFrame_store (n : Nat) (s : Station) : (openFrame n s).store = s.store := rfl
@[simp] theorem openFrame_monitor (n : Nat) (s : Station) : (openFrame n s).monitor = s.monitor := rfl
@[simp] theorem openFrame_recorder (n : Nat) (s : Station) : (openFrame n s).recorder = s.recorder := rfl
@[simp] theorem openFrame_tables (n : Nat) (s : Station) : (openFrame n s).tables = s.tables := rfl
@[simp] theorem openFrame_loader (n : Nat) (s : Station) : (openFrame n s).loader = s.loader := rfl
@[simp] theorem openFrame_draw (n : Nat) (s : Station) : (openFrame n s).draw = s.draw := rfl

/-! ### formTarget -/

@[simp] theorem formTarget_number (s : Station) : (formTarget s).number = s.number := rfl
@[simp] theorem formTarget_port (s : Station) : (formTarget s).port = s.port := rfl
@[simp] theorem formTarget_orders (s : Station) : (formTarget s).orders = s.orders := rfl
@[simp] theorem formTarget_offer (s : Station) : (formTarget s).offer = s.offer := rfl
@[simp] theorem formTarget_formed (s : Station) : (formTarget s).formed = s.formed := rfl
@[simp] theorem formTarget_engines (s : Station) : (formTarget s).engines = s.engines := rfl
@[simp] theorem formTarget_store (s : Station) : (formTarget s).store = s.store := rfl
@[simp] theorem formTarget_monitor (s : Station) : (formTarget s).monitor = s.monitor := rfl
@[simp] theorem formTarget_recorder (s : Station) : (formTarget s).recorder = s.recorder := rfl
@[simp] theorem formTarget_tables (s : Station) : (formTarget s).tables = s.tables := rfl
@[simp] theorem formTarget_loader (s : Station) : (formTarget s).loader = s.loader := rfl
@[simp] theorem formTarget_draw (s : Station) : (formTarget s).draw = s.draw := rfl

/-! ### endQuiet -/

@[simp] theorem endQuiet_number (s : Station) : (endQuiet s).number = s.number := rfl
@[simp] theorem endQuiet_port (s : Station) : (endQuiet s).port = s.port := rfl
@[simp] theorem endQuiet_table (s : Station) : (endQuiet s).table = s.table := rfl
@[simp] theorem endQuiet_orders (s : Station) : (endQuiet s).orders = s.orders := rfl
@[simp] theorem endQuiet_offer (s : Station) : (endQuiet s).offer = s.offer := rfl
@[simp] theorem endQuiet_formed (s : Station) : (endQuiet s).formed = s.formed := rfl
@[simp] theorem endQuiet_engines (s : Station) : (endQuiet s).engines = s.engines := rfl
@[simp] theorem endQuiet_monitor (s : Station) : (endQuiet s).monitor = s.monitor := rfl
@[simp] theorem endQuiet_recorder (s : Station) : (endQuiet s).recorder = s.recorder := rfl
@[simp] theorem endQuiet_tables (s : Station) : (endQuiet s).tables = s.tables := rfl
@[simp] theorem endQuiet_loader (s : Station) : (endQuiet s).loader = s.loader := rfl
@[simp] theorem endQuiet_draw (s : Station) : (endQuiet s).draw = s.draw := rfl

/-! ### carryClose -/

@[simp] theorem carryClose_number (b : Fin 8) (s : Station) : (carryClose b s).number = s.number := rfl
@[simp] theorem carryClose_port (b : Fin 8) (s : Station) : (carryClose b s).port = s.port := rfl
@[simp] theorem carryClose_table (b : Fin 8) (s : Station) : (carryClose b s).table = s.table := rfl
@[simp] theorem carryClose_orders (b : Fin 8) (s : Station) : (carryClose b s).orders = s.orders := rfl
@[simp] theorem carryClose_offer (b : Fin 8) (s : Station) : (carryClose b s).offer = s.offer := rfl
@[simp] theorem carryClose_formed (b : Fin 8) (s : Station) : (carryClose b s).formed = s.formed := rfl
@[simp] theorem carryClose_engines (b : Fin 8) (s : Station) : (carryClose b s).engines = s.engines := rfl
@[simp] theorem carryClose_monitor (b : Fin 8) (s : Station) : (carryClose b s).monitor = s.monitor := rfl
@[simp] theorem carryClose_recorder (b : Fin 8) (s : Station) : (carryClose b s).recorder = s.recorder := rfl
@[simp] theorem carryClose_tables (b : Fin 8) (s : Station) : (carryClose b s).tables = s.tables := rfl
@[simp] theorem carryClose_loader (b : Fin 8) (s : Station) : (carryClose b s).loader = s.loader := rfl
@[simp] theorem carryClose_draw (b : Fin 8) (s : Station) : (carryClose b s).draw = s.draw := rfl

/-! ### riseDebt -/

@[simp] theorem riseDebt_number (s : Station) : (riseDebt s).number = s.number := rfl
@[simp] theorem riseDebt_port (s : Station) : (riseDebt s).port = s.port := rfl
@[simp] theorem riseDebt_table (s : Station) : (riseDebt s).table = s.table := rfl
@[simp] theorem riseDebt_orders (s : Station) : (riseDebt s).orders = s.orders := rfl
@[simp] theorem riseDebt_offer (s : Station) : (riseDebt s).offer = s.offer := rfl
@[simp] theorem riseDebt_formed (s : Station) : (riseDebt s).formed = s.formed := rfl
@[simp] theorem riseDebt_engines (s : Station) : (riseDebt s).engines = s.engines := rfl
@[simp] theorem riseDebt_monitor (s : Station) : (riseDebt s).monitor = s.monitor := rfl
@[simp] theorem riseDebt_recorder (s : Station) : (riseDebt s).recorder = s.recorder := rfl
@[simp] theorem riseDebt_tables (s : Station) : (riseDebt s).tables = s.tables := rfl
@[simp] theorem riseDebt_loader (s : Station) : (riseDebt s).loader = s.loader := rfl
@[simp] theorem riseDebt_draw (s : Station) : (riseDebt s).draw = s.draw := rfl

/-! ### swapAreas -/

@[simp] theorem swapAreas_number (id n : Nat) (s : Station) : (swapAreas id n s).number = s.number := rfl
@[simp] theorem swapAreas_port (id n : Nat) (s : Station) : (swapAreas id n s).port = s.port := rfl
@[simp] theorem swapAreas_table (id n : Nat) (s : Station) : (swapAreas id n s).table = s.table := rfl
@[simp] theorem swapAreas_orders (id n : Nat) (s : Station) : (swapAreas id n s).orders = s.orders := rfl
@[simp] theorem swapAreas_offer (id n : Nat) (s : Station) : (swapAreas id n s).offer = s.offer := rfl
@[simp] theorem swapAreas_formed (id n : Nat) (s : Station) : (swapAreas id n s).formed = s.formed := rfl
@[simp] theorem swapAreas_engines (id n : Nat) (s : Station) : (swapAreas id n s).engines = s.engines := rfl
@[simp] theorem swapAreas_store (id n : Nat) (s : Station) : (swapAreas id n s).store = s.store := rfl
@[simp] theorem swapAreas_monitor (id n : Nat) (s : Station) : (swapAreas id n s).monitor = s.monitor := rfl
@[simp] theorem swapAreas_recorder (id n : Nat) (s : Station) : (swapAreas id n s).recorder = s.recorder := rfl
@[simp] theorem swapAreas_loader (id n : Nat) (s : Station) : (swapAreas id n s).loader = s.loader := rfl
@[simp] theorem swapAreas_draw (id n : Nat) (s : Station) : (swapAreas id n s).draw = s.draw := rfl

/-! ### readOwner -/

@[simp] theorem readOwner_number (c : Channel) (d : Option OwnerCode) (r : OwnerCode) (s : Station) : (readOwner c d r s).number = s.number := rfl
@[simp] theorem readOwner_orders (c : Channel) (d : Option OwnerCode) (r : OwnerCode) (s : Station) : (readOwner c d r s).orders = s.orders := rfl
@[simp] theorem readOwner_offer (c : Channel) (d : Option OwnerCode) (r : OwnerCode) (s : Station) : (readOwner c d r s).offer = s.offer := rfl
@[simp] theorem readOwner_formed (c : Channel) (d : Option OwnerCode) (r : OwnerCode) (s : Station) : (readOwner c d r s).formed = s.formed := rfl
@[simp] theorem readOwner_engines (c : Channel) (d : Option OwnerCode) (r : OwnerCode) (s : Station) : (readOwner c d r s).engines = s.engines := rfl
@[simp] theorem readOwner_store (c : Channel) (d : Option OwnerCode) (r : OwnerCode) (s : Station) : (readOwner c d r s).store = s.store := rfl
@[simp] theorem readOwner_monitor (c : Channel) (d : Option OwnerCode) (r : OwnerCode) (s : Station) : (readOwner c d r s).monitor = s.monitor := rfl
@[simp] theorem readOwner_recorder (c : Channel) (d : Option OwnerCode) (r : OwnerCode) (s : Station) : (readOwner c d r s).recorder = s.recorder := rfl
@[simp] theorem readOwner_tables (c : Channel) (d : Option OwnerCode) (r : OwnerCode) (s : Station) : (readOwner c d r s).tables = s.tables := rfl
@[simp] theorem readOwner_loader (c : Channel) (d : Option OwnerCode) (r : OwnerCode) (s : Station) : (readOwner c d r s).loader = s.loader := rfl
@[simp] theorem readOwner_draw (c : Channel) (d : Option OwnerCode) (r : OwnerCode) (s : Station) : (readOwner c d r s).draw = s.draw := rfl

/-! ### writeBurst -/

@[simp] theorem writeBurst_number (a : Nat) (cl : Bool) (vs : List Code) (s : Station) : (writeBurst a cl vs s).number = s.number := rfl
@[simp] theorem writeBurst_port (a : Nat) (cl : Bool) (vs : List Code) (s : Station) : (writeBurst a cl vs s).port = s.port := rfl
@[simp] theorem writeBurst_table (a : Nat) (cl : Bool) (vs : List Code) (s : Station) : (writeBurst a cl vs s).table = s.table := rfl
@[simp] theorem writeBurst_orders (a : Nat) (cl : Bool) (vs : List Code) (s : Station) : (writeBurst a cl vs s).orders = s.orders := rfl
@[simp] theorem writeBurst_offer (a : Nat) (cl : Bool) (vs : List Code) (s : Station) : (writeBurst a cl vs s).offer = s.offer := rfl
@[simp] theorem writeBurst_formed (a : Nat) (cl : Bool) (vs : List Code) (s : Station) : (writeBurst a cl vs s).formed = s.formed := rfl
@[simp] theorem writeBurst_engines (a : Nat) (cl : Bool) (vs : List Code) (s : Station) : (writeBurst a cl vs s).engines = s.engines := rfl
@[simp] theorem writeBurst_monitor (a : Nat) (cl : Bool) (vs : List Code) (s : Station) : (writeBurst a cl vs s).monitor = s.monitor := rfl
@[simp] theorem writeBurst_recorder (a : Nat) (cl : Bool) (vs : List Code) (s : Station) : (writeBurst a cl vs s).recorder = s.recorder := rfl
@[simp] theorem writeBurst_tables (a : Nat) (cl : Bool) (vs : List Code) (s : Station) : (writeBurst a cl vs s).tables = s.tables := rfl
@[simp] theorem writeBurst_loader (a : Nat) (cl : Bool) (vs : List Code) (s : Station) : (writeBurst a cl vs s).loader = s.loader := rfl
@[simp] theorem writeBurst_draw (a : Nat) (cl : Bool) (vs : List Code) (s : Station) : (writeBurst a cl vs s).draw = s.draw := rfl

/-! ### startTone -/

@[simp] theorem startTone_number (c : Channel) (p : Nat) (m : Bool) (n : Nat) (g : Fin 8) (s : Station) : (startTone c p m n g s).number = s.number := rfl
@[simp] theorem startTone_port (c : Channel) (p : Nat) (m : Bool) (n : Nat) (g : Fin 8) (s : Station) : (startTone c p m n g s).port = s.port := rfl
@[simp] theorem startTone_orders (c : Channel) (p : Nat) (m : Bool) (n : Nat) (g : Fin 8) (s : Station) : (startTone c p m n g s).orders = s.orders := rfl
@[simp] theorem startTone_offer (c : Channel) (p : Nat) (m : Bool) (n : Nat) (g : Fin 8) (s : Station) : (startTone c p m n g s).offer = s.offer := rfl
@[simp] theorem startTone_engines (c : Channel) (p : Nat) (m : Bool) (n : Nat) (g : Fin 8) (s : Station) : (startTone c p m n g s).engines = s.engines := rfl
@[simp] theorem startTone_store (c : Channel) (p : Nat) (m : Bool) (n : Nat) (g : Fin 8) (s : Station) : (startTone c p m n g s).store = s.store := rfl
@[simp] theorem startTone_monitor (c : Channel) (p : Nat) (m : Bool) (n : Nat) (g : Fin 8) (s : Station) : (startTone c p m n g s).monitor = s.monitor := rfl
@[simp] theorem startTone_recorder (c : Channel) (p : Nat) (m : Bool) (n : Nat) (g : Fin 8) (s : Station) : (startTone c p m n g s).recorder = s.recorder := rfl
@[simp] theorem startTone_tables (c : Channel) (p : Nat) (m : Bool) (n : Nat) (g : Fin 8) (s : Station) : (startTone c p m n g s).tables = s.tables := rfl
@[simp] theorem startTone_loader (c : Channel) (p : Nat) (m : Bool) (n : Nat) (g : Fin 8) (s : Station) : (startTone c p m n g s).loader = s.loader := rfl
@[simp] theorem startTone_draw (c : Channel) (p : Nat) (m : Bool) (n : Nat) (g : Fin 8) (s : Station) : (startTone c p m n g s).draw = s.draw := rfl

/-! ### What the updates write -/

@[simp] theorem setHolding_get_same (c : Channel) (h : Holding) (s : Station) :
    (setHolding c h s).table.holding.get c = h := by simp [setHolding]

@[simp] theorem setHolding_get_ne (c d : Channel) (h : Holding) (s : Station) (hne : c ≠ d) :
    (setHolding c h s).table.holding.get d = s.table.holding.get d := by simp [setHolding, hne]

@[simp] theorem setHolding_pool (c : Channel) (h : Holding) (s : Station) :
    (setHolding c h s).table.pool = s.table.pool := rfl

@[simp] theorem setHolding_contention (c : Channel) (h : Holding) (s : Station) :
    (setHolding c h s).table.contention = s.table.contention := rfl

@[simp] theorem takeInto_get_same (c : Channel) (h : Holding) (s : Station) :
    (takeInto c h s).table.holding.get c = h := by simp [takeInto, ChannelTable.hold]

@[simp] theorem takeInto_pool (c : Channel) (h : Holding) (s : Station) :
    (takeInto c h s).table.pool = s.table.pool.erase c := rfl

@[simp] theorem takeInto_contention_same (c : Channel) (h : Holding) (s : Station) :
    (takeInto c h s).table.contention.get c = 0 := by simp [takeInto, ChannelTable.hold]

@[simp] theorem dropAll_holding (c : Channel) (s : Station) : (dropAll s).table.holding.get c = .none := by
  simp [dropAll]

@[simp] theorem dropAll_pool (s : Station) : (dropAll s).table.pool = [] := rfl

@[simp] theorem dropAll_claimed (s : Station) : (dropAll s).table.claimed = none := rfl

@[simp] theorem dropAll_backOff (s : Station) : (dropAll s).table.backOff = s.table.backOff := rfl

@[simp] theorem dropAll_view (s : Station) : (dropAll s).table.view = s.table.view := rfl

@[simp] theorem dropAll_recorder (s : Station) : (dropAll s).recorder = none := rfl

@[simp] theorem enterHalted_state (s : Station) : (enterHalted s).orders.state = .halted := rfl

@[simp] theorem enterHalted_list (s : Station) : (enterHalted s).orders.list = [] := rfl

@[simp] theorem enterHalted_latch (s : Station) : (enterHalted s).orders.latch = none := rfl

@[simp] theorem enterHalted_countdown (s : Station) : (enterHalted s).orders.countdown = none := rfl

@[simp] theorem driveReply_replyOut (w : Word) (s : Station) : (driveReply w s).port.replyOut = some w := rfl

@[simp] theorem dropOffer_offer (s : Station) : (dropOffer s).offer = none := rfl

@[simp] theorem takeOrder_state (s : Station) : (takeOrder s).orders.state = s.orders.state := rfl

@[simp] theorem enterState_state (st : StationState) (s : Station) : (enterState st s).orders.state = st := rfl

@[simp] theorem enterResting_state (s : Station) : (enterResting s).orders.state = .resting := rfl

@[simp] theorem openFrame_frameCount (n : Nat) (s : Station) : (openFrame n s).port.frameCount = n := rfl

@[simp] theorem openFrame_offer (n : Nat) (s : Station) : (openFrame n s).offer = none := rfl

end Sys2Proof.Machine
end

