-- ==== Sys2Proof/Laws/Words.lean ====
section
/-! SUPPORT. The words of the order lane as numbers: a word built of fields is their sum, and a field is its bits. -/
namespace Sys2Proof.Machine

/-- A word of an upper and a lower part has the sum of the two, each in its place. -/
theorem toNat_append_eq_add {n m : Nat} (x : BitVec n) (y : BitVec m) :
    (x ++ y).toNat = x.toNat * 2 ^ m + y.toNat := by
  rw [BitVec.toNat_append, Nat.shiftLeft_eq, Nat.mul_comm, Nat.two_pow_add_eq_or_of_lt y.isLt]

theorem field_eq_bits (w : Word) (lo n : Nat) : field w lo (n + 1) = bits w (lo + n) lo := by
  simp only [field, bits, BitVec.extractLsb'_toNat, Nat.shiftRight_eq_div_pow]
  congr 2; omega

end Sys2Proof.Machine
end

