-- ==== Sys2Proof/Tests/Slice0.lean ====
section
/-! SUPPORT. The model's own tests: the well-formedness smoke, the manual's worked cases, and for each statement with
hypotheses a state and operands that meet them. -/
namespace Sys2Proof.Tests
open Sys2Proof Sys2Proof.Machine

/-! ### Well-formedness: one ill-formed command for each check -/

theorem test_wf_channel : (Instr.audioEnd 48).wellFormed = false := by decide
theorem test_wf_channel_top : (Instr.audioEnd 47).wellFormed = true := by decide
theorem test_wf_bank : (Instr.close 8).wellFormed = false := by decide
theorem test_wf_open_bank : (Instr.openRow 8 0).wellFormed = false := by decide
theorem test_wf_row : (Instr.openRow 7 8192).wellFormed = false := by decide
theorem test_wf_row_top : (Instr.openRow 7 8191).wellFormed = true := by decide
theorem test_wf_engine : (Instr.fetch 16).wellFormed = false := by decide
theorem test_wf_owner_code : (Instr.ownerPosition 3 [2, 15]).wellFormed = false := by decide
theorem test_wf_between_code : (Instr.record (some [15])).wellFormed = false := by decide
theorem test_wf_reply_word : (Instr.bindNew [3221225472]).wellFormed = false := by decide
theorem test_wf_notice_word : (Instr.noticePosition (.outcome [4294967295])).wellFormed = false := by decide

/-! ### The lanes (worked sequence of section 1.5) -/

/-- Stations 6, 5 and 12 claim channel 22: every station reads 5. -/
theorem test_lane_three_claims : laneWord [6#4, 5#4, 12#4] = 5 ∧ wins 5#4 [6, 12] = true ∧ wins 6#4 [5, 12] = false := by
  decide

/-- A fourth station with code 3: the lane reads 3. -/
theorem test_lane_fourth_claim : laneWord [6#4, 5#4, 12#4, 3#4] = 3 := by decide

/-- An undriven position reads all ones (R7). -/
theorem test_lane_undriven : laneWord ([] : List Word) = 4294967295 := by decide

/-! ### Words (section 13, worked example) -/

/-- Station 2's bid, as the number the manual gives. -/
theorem test_bid_word : bidWord false 36 2 17 150 = 151589014 := by decide

/-- The JOIN of the worked example: kind 1, class 0, tag 49, signal 200, START, flag clear. -/
theorem test_join_word : Machine.orderOf (0b0001_00_00110001_011001000_0_0_0000000#32) =
    some { cls := 0, tag := 49, body := .join 200 .start false } := by decide

/-- A LEAVE of tag 12 for channel 14, and the recent-order memory's mark for it. -/
theorem test_leave_word : Machine.orderOf (0b0010_01_00001100_001110_000000000000#32) =
    some { cls := 1, tag := 12, body := .leave 14 } ∧ seenOf (0b0010_01_00001100_001110_000000000000#32) = .noticeMark := by
  decide

/-- A SERVICE RETURN of class 2 to station 4. -/
theorem test_service_word : Machine.orderOf (0b0110_10_00000000_0100_10_000000000000#32) =
    some { cls := 2, tag := 0, body := .service 4 .back } := by decide

/-- A word of kind 9 is idle whatever its other bits (R178). -/
theorem test_idle_word : Machine.orderOf (0b1001_11_11111111_000000_000000000000#32) = none := by decide

/-! ### The sample path (chapter 7, worked cases) -/

/-- A trim of +12 on code 151 gives code 135, and on code 127 code 126. -/
theorem test_trim_twelve : trimCode 12 151 = 135 ∧ trimCode 12 127 = 126 := by decide

/-- A trim of +24 saturates code 136 to code 128. -/
theorem test_trim_saturates : trimCode 24 136 = 128 := by decide

/-- The two-component tone: code 151, and code 191 with the second phase at 57,344. -/
theorem test_two_component_tone :
    toneCode { c1 := some ⟨1024, 26⟩, c2 := some ⟨1024, 26⟩ } 16384 8192 = 151
      ∧ toneCode { c1 := some ⟨1024, 26⟩, c2 := some ⟨1024, 26⟩ } 16384 57344 = 191 := by decide

/-! ### States the tests start from -/

/-- A component sounded by the test plans. -/
def tone : ToneSet := { c1 := some ⟨1024, 6⟩, c2 := none }

/-- The tables of a small image: plan 3 is the congestion plan; 300 is recordable, 301 protected, 200 has a short
form. -/
def tables : Tables :=
  { plans :=
      [{ id := 3, sets := [tone], steps := [{ sound := some 0, duration := none, cond := .always }], loop := 0 },
        { id := 5, sets := [tone]
          steps := [{ sound := some 0, duration := some 2, cond := .always },
            { sound := none, duration := some 3, cond := .always }]
          loop := 0 },
        { id := 9, sets := [tone]
          steps := [{ sound := some 0, duration := some 2, cond := .noListeners },
            { sound := none, duration := some 3, cond := .gradeHigh }]
          loop := 0 }]
    directory :=
      [{ id := 200, guarded := false, shortForm := some 201, area := ⟨0, 4⟩, alternate := none, pair := none, gap := 3,
         window := 1000, trim := 0 },
        { id := 201, guarded := false, shortForm := none, area := ⟨8, 2⟩, alternate := none, pair := none, gap := 0,
          window := 0, trim := 0 },
        { id := 300, guarded := false, shortForm := none, area := ⟨1024, 20⟩, alternate := some 2048, pair := some 0,
          gap := 3, window := 1000, trim := 0 },
        { id := 301, guarded := true, shortForm := none, area := ⟨4096, 20⟩, alternate := some 8192, pair := some 1,
          gap := 3, window := 1000, trim := 0 }]
    pairs := [⟨0, 1024, 2048⟩, ⟨1, 4096, 8192⟩]
    standing := [], poolTarget := 2, quietPeriod := 512, congestionPlan := some 3, threshold := 100, endSilence := 250
    areaSize := 2048 }

/-- Station 4 in the given state, in a frame whose order position has passed. -/
def station (st : StationState) : State :=
  { State.reset with
    number := 4, tables := tables
    port := { Port.fresh with frameCount := 5, timer := some 2, orderSeen := true }
    orders := { OrderUnit.fresh st with seen2 := .noticeMark }
    table := { ChannelTable.fresh with target := 2 } }

/-- Station 4 at the reply position of an order. -/
def atReply (st : StationState) (o : Order) : State :=
  { station st with orders := { OrderUnit.fresh st with list := [⟨o, 2⟩], seen2 := .order } }

/-- A state with a channel held. -/
def holding (s : State) (c : Channel) (h : Holding) : State := { s with toStation := setHolding c h s.toStation }

/-- A state with a pool channel. -/
def pooled (s : State) (c : Channel) : State :=
  { s with table := { s.table with holding := s.table.holding.put c .pool, pool := s.table.pool ++ [c] } }

/-- A tone channel's record. -/
def toneRecord (standing : Bool) (listeners quiet : Nat) : ToneRecord :=
  { plan := 5, standing := standing, listeners := listeners, quiet := quiet, phase1 := 0, phase2 := 0, inc1 := 1024,
    inc2 := 0, mode := .timed, step := 0, remaining := 0, pass := 0, generator := 0 }

/-- A cycle record of announcement 200. -/
def cycleRecord (substate : Substate) (t listeners quiet : Nat) (waiting : List PendingJoin) : CycleRecord :=
  { announcement := 200, substate := substate, t := t, number := 255, listeners := listeners, waiting := waiting,
    quiet := quiet, late := false, position := 0, engine := 0 }

/-- An engine bound to channel 14. -/
def engine : Engine := Engine.fresh 14 ⟨0, 4⟩

/-- A state with engine 0 bound. -/
def bound (s : State) : State := { s with toStation := setEngine 0 engine s.toStation }

/-- A recording in hand for entry 300 on channel 22. -/
def recording (phase : RecordPhase) : Recording :=
  { Recording.fresh 300 2 22 with phase := phase, started := true, placed := 20, lastLoud := 1, ring := List.replicate 20 7 }

/-- A LOST notice for channel 5. -/
def lost : Notice := { kind := .lost, channel := some 5, detail := 2 }

/-- An EXISTING offer on channel 14. -/
def offer (wayIn : WayIn) : Offer :=
  { degraded := false, signal := 200, channel := 14, wayIn := wayIn, delay := 0, bid := 0, tag := 49, mode := .start }

/-- A state with an offer in hand and its word driven. -/
def bidding (s : State) (o : Offer) : State :=
  { s with offer := some o, port := { s.port with replyOut := some (o.word s.number) } }

/-- A store in the given state, its step number 40. -/
def withStore (s : State) (st : StoreState) : State :=
  { s with store := { s.store with state := st, step := 40, latency := some 2 } }

/-- An order to station 4. -/
def order (cls : Nat) (body : OrderBody) : Order := { cls := cls, tag := 49, body := body }

/-! ### One step of a command each -/

/-- An idle station answers a step with itself. -/
theorem test_idle_step : step State.reset = .next State.reset := rfl

/-- Station 2's T of 150 at grade 1: bid 36 for a START caller (worked example of chapter 4). -/
theorem test_bid_of_a_wait : bidOf false 1 150 = 36 ∧ bidOf true 0 2 = 128 ∧ bidOf false 3 1200 = 127 := by decide

/-- At grade 3 a window of 1000 is 4000, and one of 1500 is 4095 (R60's table). -/
theorem test_window_at_grade_three : effectiveWindow 3 1000 = 4000 ∧ effectiveWindow 3 1500 = 4095 := by decide

/-- An underrun is counted where its run begins, and not while the run lasts (R122). -/
theorem test_underrun_counted_once :
    let s := holding (bound (station .serving)) 14 (.cycle (cycleRecord .playing 3 2 512 []))
    let t : State := { s with toStation := setEngine 0 { engine with run := true } s.toStation }
    ((framePulse false false s.toStation).engines.get 0).underruns = 1
      ∧ ((framePulse false false t.toStation).engines.get 0).underruns = 0 := by decide +kernel

/-- At the boundary that ends ISOLATED with a debt of 3 the monitor works in LISTENING from grade 0, its notice is
posted there, and the boundary is not counted (R49, R157, R158). -/
theorem test_resumption :
    let s := station .isolated
    let u : Station := { s.toStation with port := Port.fresh, store := { s.store with debt := 3 } }
    let w := boundaryBefore true (resumes u) (whenDue (resumes u) resume u)
    w.station.orders.state = .listening ∧ w.station.orders.listening = 0 ∧ w.station.monitor.grade = 1
      ∧ w.posts.map Notice.kind = [.grade] := by decide +kernel

/-- A claim won with 4 channels in POOL joins in the newest place, and the newest before it is released (R22, R26). -/
theorem test_claim_won_at_four :
    let s := pooled (pooled (pooled (pooled (station .serving) 1) 2) 3) 4
    let t := settleClaim 22 true s.toStation
    t.table.pool = [1, 2, 3, 22] ∧ t.table.holding.get 22 = .pool ∧ t.table.holding.get 4 = .none := by decide +kernel

/-- The preference order starts at channel 3 × number (R21). -/
theorem test_preference_order : preferred 14 0 = 42 ∧ preferred 14 6 = 0 ∧ preferred 4 0 = 12 := by decide

/-- A notice of equal kind replaces the pending one and marks its kind missed (R52). -/
theorem test_notice_replaces :
    ((OrderUnit.fresh .serving).take lost |>.take { lost with channel := some 9 }).latch = some { lost with channel := some 9 }
      ∧ ((OrderUnit.fresh .serving).take lost |>.take { lost with channel := some 9 }).missed.get 1 = true := by decide

/-- A less urgent notice only marks its kind (R52). -/
theorem test_notice_marks :
    ((OrderUnit.fresh .serving).take lost |>.take (stateNotice .resting)).latch = some lost
      ∧ ((OrderUnit.fresh .serving).take lost |>.take (stateNotice .resting)).missed.get 6 = true := by decide

/-- A pulse in the middle of a store step counts that step whole, on the frame before (R4). -/
theorem test_pulse_in_mid_step :
    (beforePulse true State.reset.toStation).store.step = 1 ∧ (beforePulse true State.reset.toStation).port.localSteps = 1
      ∧ beforePulse false State.reset.toStation = State.reset.toStation := by decide +kernel

/-- The command lines carry a fetch by its bank and slot: burst 1037 is bank 5, slot 1 of row 2 (R135, R137). -/
theorem test_command_lines :
    busCommand (setEngine 3 (Engine.fresh 14 ⟨1030, 8⟩ |> fun g => { g with pointer := ⟨0, 7⟩ }) State.reset.toStation)
      (.fetch 3 true) = .fetch 5 1 true := by decide

/-- The CRC register after the byte 0 and after the byte 255, from all ones (R172, by hand). -/
theorem test_crc : crcByte 65535 0 = 57840 ∧ crcByte 65535 255 = 65280 := by decide

/-- No table row has bits, so that no word spells a command. -/
theorem test_no_word_spells : decodeTableWord 32 0 = none := rfl

/-! ### For each statement with hypotheses, a state and operands that meet them -/

/-- No engine of the station is bound. -/
def noEngines (s : State) : Bool := (numbers 16).all fun e => (s.engines.get e).bound.isNone

/-- A station in its last frame of a superframe: channel 14 plays on engine 0, channel 9 is a tone, channel 30 is in
the pool. -/
def lastFrame : State :=
  let s := pooled (holding (bound (holding (station .serving) 14 (.cycle (cycleRecord .playing 3 2 1 [])))) 9
    (.tone (toneRecord true 1 1))) 30
  { s with port := { s.port with frameCount := 15 } }

/-- A pulse one step after the last is a glitch; one at two steps, and the first after a reset, begin frames. -/
theorem witness_FramePulseBeginsAFrame :
    (∃ n, ({ State.reset with port := { Port.fresh with timer := some 1 } } : State).port.timer = some n ∧ n < 2)
      ∧ pulseAccepted lastFrame ∧ pulseAccepted State.reset ∧ boundaryPulse false lastFrame
      ∧ ¬ boundaryPulse false (station .serving) ∧ boundaryPulse true (station .serving)
      ∧ lastFrame.store.issued = none ∧ { lastFrame.store with issued := some .renew }.issued ≠ none := by
  refine ⟨⟨1, by decide⟩, ?_, ?_, Or.inr (by decide), ?_, Or.inl rfl, rfl, by decide⟩
  · intro n h
    have : n = 2 := by simpa [lastFrame, pooled, holding, bound, setHolding, setEngine, station] using h.symm
    omega
  · intro n h
    cases h
  · rintro (h | h) <;> revert h <;> decide

/-- The cycle and the tone of that station, neither in the pool, their quiet timers about to run out. -/
theorem witness_FramePulseBeginsAFrame_channels :
    lastFrame.table.holding.get 14 = .cycle (cycleRecord .playing 3 2 1 []) ∧ (14 : Channel) ∉ lastFrame.table.pool
      ∧ (∀ d x, d ≠ 14 → lastFrame.table.holding.get d = .cycle x → x.engine ≠ (cycleRecord .playing 3 2 1 []).engine)
      ∧ (∃ v, cycleAtBoundary false 14 (cycleRecord .playing 3 2 1 []) lastFrame v)
      ∧ engineAt lastFrame.toStation 0 = some engine ∧ (cycleRecord .playing 3 2 1 []).quiet ≤ 1
      ∧ lastFrame.table.holding.get 9 = .tone (toneRecord true 1 1) ∧ (9 : Channel) ∉ lastFrame.table.pool
      ∧ (toneRecord true 1 1).quiet ≤ 1 ∧ 1 ≤ (toneRecord true 1 1).listeners
      ∧ lastFrame.orders.state.answers = true ∧ lastFrame.orders.countdown = none := by
  refine ⟨by decide, by decide, ?_, ⟨_, fun h => absurd (Or.inr (by decide)) h, fun _ => ⟨_, _, rfl, rfl, rfl⟩⟩,
    by decide, by decide, by decide, by decide, by decide, by decide, by decide, by decide⟩
  intro d x hd h
  have all : ∀ d : Channel, d ≠ 14 → (lastFrame.table.holding.get d).isCycle = false := by decide
  have := all d hd
  rw [h] at this
  cases this

/-- A tone channel in STARTING whose plan is found, before a frame with a boundary and before one without. -/
theorem witness_FramePulseBeginsAFrame_tone :
    let r := { toneRecord true 1 512 with mode := .starting }
    let s := holding (station .serving) 9 (.tone r)
    let b : State := { s with port := { s.port with frameCount := 15 } }
    (findPlan s.toStation 5).map Plan.loop = some 0 ∧ toneAtBoundary false 9 r s s ∧ s.table.holding.get 9 = .tone r
      ∧ ∃ v, toneAtBoundary false 9 r b v ∧ v.table.holding.get 9 = .tone { r with quiet := 511 } := by
  refine ⟨by decide, ⟨fun _ => rfl, fun h => ?_⟩, by decide,
    ⟨_, ⟨fun h => absurd (Or.inr (by decide)) h, fun _ => rfl⟩, by decide +kernel⟩⟩
  rcases h with h | h <;> exact absurd h (by decide)

/-- The counts and states at whose ends a frame pulse acts: the halt countdown, LISTENING, DRAINING without work, a
pulse that resumes, the grade's rise and fall, and the store's frames. -/
theorem witness_FramePulseBeginsAFrame_counts :
    let s := fun st => station st
    haltsNow { s .serving with orders := { OrderUnit.fresh .serving with countdown := some 1 } }
      ∧ ({ OrderUnit.fresh .serving with countdown := some 2 } : OrderUnit).countdown = some (0 + 2)
      ∧ (s .listening).orders.countdown = none ∧ (s .listening).orders.listening + 1 < 16
      ∧ 16 ≤ ({ OrderUnit.fresh .listening with listening := 15 } : OrderUnit).listening + 1
      ∧ (s .draining).recorder = none ∧ (∀ c, (s .draining).table.holding.get c = .none)
      ∧ ({ s .isolated with port := Port.fresh } : State).port.timer = none ∧ (s .isolated).orders.countdown = none
      ∧ 8 ≤ ({ Monitor.fresh with grade := 1, fall := 7 } : Monitor).fall + 1
      ∧ 8 ≤ ({ (s .serving).store with frames := 7 } : Store).frames + 1
      ∧ (withStore (s .serving) .ready).store.state.counts = true ∧ (s .serving).store.state.counts = false := by
  refine ⟨⟨1, by decide, rfl⟩, ?_⟩
  decide

/-- A station with a plan to cover and none of it running, whose pool stands within the target, and one with a pool
channel too many. -/
theorem witness_FramePulseBeginsAFrame_pool :
    let s := pooled (station .serving) 30
    let t : State := { s with tables := { tables with standing := [5] } }
    noneReturned false s ∧ (∀ p ∈ s.tables.standing, isCovered s p) ∧ s.table.pool = [] ++ [30]
      ∧ s.table.holding.get 30 = .pool ∧ firstToCover t 5 ∧ t.table.pool.length ≤ tables.poolTarget
      ∧ (pooled (pooled s 31) 32).table.pool.length = tables.poolTarget + 1 := by
  refine ⟨fun _ => by decide, fun p h => absurd h List.not_mem_nil, by decide, by decide, ⟨[], [], rfl, by simp, ?_⟩,
    by decide, by decide⟩
  rintro ⟨c, r, h, -⟩
  have none : ∀ c : Channel, ((pooled (station .serving) 30).table.holding.get c).isTone = false := by decide
  have := none c
  rw [show ((pooled (station .serving) 30).table.holding.get c) = .tone r from h] at this
  cases this

/-- A deserted cycle about to start and a tone nobody hears, before the boundary, with a pool below the target and one at
it. -/
def ending (pool : List Channel) : State :=
  let s := holding (holding (bound (station .serving)) 14 (.cycle (cycleRecord .priming 1 0 512 []))) 9
    (.tone (toneRecord false 1 1))
  { pool.foldl pooled s with port := { s.port with frameCount := 15 } }

theorem witness_FramePulseBeginsAFrame_ended :
    endsAt false 14 (ending []) ∧ endsAt false 9 (ending []) ∧ endsAt false 14 (ending [30, 31])
      ∧ (∀ p ∈ (ending []).tables.standing, isCovered (ending []) p) ∧ (ending []).table.pool = []
      ∧ (ending [30, 31]).table.pool.length = tables.poolTarget
      ∧ tables.poolTarget < (ending [30, 31, 32]).table.pool.length := by
  refine ⟨⟨Or.inr (by decide), Or.inl ⟨cycleRecord .priming 1 0 512 [], _, by decide,
      ⟨fun h => absurd (Or.inr (by decide)) h, fun _ => ⟨_, _, rfl, rfl, rfl⟩⟩, by decide +kernel⟩⟩,
    ⟨Or.inr (by decide), Or.inr ⟨toneRecord false 1 1, _, by decide,
      ⟨fun h => absurd (Or.inr (by decide)) h, fun _ => rfl⟩, by decide +kernel⟩⟩,
    ⟨Or.inr (by decide), Or.inl ⟨cycleRecord .priming 1 0 512 [], _, by decide,
      ⟨fun h => absurd (Or.inr (by decide)) h, fun _ => ⟨_, _, rfl, rfl, rfl⟩⟩, by decide +kernel⟩⟩,
    fun p h => absurd h List.not_mem_nil, by decide, by decide, by decide⟩

/-- A plan to cover in a frame whose pool stands above the target, by two channels and by one. -/
theorem witness_FramePulseBeginsAFrame_surplus :
    let s := fun n pool => ({ List.foldl pooled (station .serving) pool with
      tables := { tables with standing := [5], poolTarget := n } } : State)
    (s 1 [30, 31]).table.pool = 30 :: ([] ++ [31]) ∧ (s 2 [30, 31, 32]).table.pool = 30 :: ([31] ++ [32])
      ∧ (s 0 [30]).table.pool = [30] ∧ (s 1 [30, 31]).table.holding.get 30 = .pool
      ∧ (s 1 [30, 31]).table.holding.get 31 = .pool ∧ 1 < (s 1 [30, 31]).table.pool.length
      ∧ firstToCover (s 1 [30, 31]) 5 ∧ newToneFor (s 1 [30, 31]) 5 0 ∧ noneReturned false (s 1 [30, 31]) := by
  have none : ∀ c : Channel, ((pooled (pooled (station .serving) 30) 31).table.holding.get c).isTone = false := by decide
  have noTone : ∀ c r, (pooled (pooled (station .serving) 30) 31).table.holding.get c ≠ .tone r := by
    intro c r h
    have := none c
    rw [h] at this
    cases this
  refine ⟨by decide, by decide, by decide, by decide, by decide, by decide, ⟨[], [], rfl, by simp, ?_⟩,
    ⟨fun d q h => absurd h (noTone d q), fun h hh => absurd hh (by simp), by decide⟩, ?_⟩
  · rintro ⟨c, r, h, -⟩
    exact noTone c r h
  · rintro (h | h) <;> exact absurd h (by decide)

/-- The monitor's states at a boundary: a station that resumes is in LISTENING, one that does not resume is not among
them, and neither is HALTED. -/
theorem witness_FramePulseBeginsAFrame_monitor :
    let s : State := { station .isolated with port := Port.fresh }
    stateAtBoundary s = .listening ∧ boundaryPulse false s ∧ monitorWorks (stateAtBoundary s) ∧ s.orders.countdown = none
      ∧ (stateAtBoundary s).answers = true ∧ ¬ monitorWorks (stateAtBoundary (station .isolated))
      ∧ ¬ monitorWorks (stateAtBoundary (station .halted)) := by
  refine ⟨by decide, Or.inr (by decide), Or.inr (Or.inl (by decide)), by decide, by decide, ?_, ?_⟩ <;>
    · rintro (h | h | h | h | h) <;> exact absurd h (by decide)

theorem witness_PulseLossIsolates :
    ∃ s : State, s.port.timer = some 8 ∧ s.orders.state = .serving ∧ s.orders.countdown = none :=
  ⟨{ station .serving with port := { Port.fresh with timer := some 8 } }, by decide⟩

theorem witness_PulseLossIsolates_in_countdown :
    ∃ s : State, s.port.timer = some 8 ∧ s.orders.countdown.isSome = true :=
  ⟨{ station .serving with
      port := { Port.fresh with timer := some 8 }, orders := { OrderUnit.fresh .serving with countdown := some 3 } },
    by decide⟩

theorem witness_ShelfResetDropsEverything : ∃ s : State, 16 ≤ s.port.breakCount ∧ s.orders.state = .draining :=
  ⟨{ station .draining with port := { Port.fresh with breakCount := 16, timer := some 2 } }, by decide⟩

theorem witness_LocalFrameBegins_counted :
    ∃ s : State, s.port.timer = none ∧ 4 ≤ s.port.localSteps ∧ s.store.state.counts = true ∧ s.store.frames < 7 :=
  ⟨{ withStore State.reset .ready with port := { Port.fresh with localSteps := 4 } }, by decide⟩

theorem witness_LocalFrameBegins_eighth :
    ∃ s : State, s.port.timer = none ∧ 4 ≤ s.port.localSteps ∧ s.store.state.counts = true ∧ 7 ≤ s.store.frames :=
  ⟨{ State.reset with
      port := { Port.fresh with localSteps := 4 }, store := { (withStore State.reset .ready).store with frames := 7 } },
    by decide⟩

theorem witness_LocalFrameBegins_uncounted :
    ∃ s : State, s.port.timer = none ∧ 4 ≤ s.port.localSteps ∧ s.store.state.counts = false :=
  ⟨{ State.reset with port := { Port.fresh with localSteps := 4 } }, by decide⟩

/-- Nothing falls due right after reset, and none asks; so it is with a bound engine whose ring is full. -/
theorem witness_IdleStoreStepMovesTheClock :
    NothingDue State.reset
      ∧ NothingDue (setEngine 0 { engine with ring := List.replicate 17 ⟨7, ⟨0, 0⟩⟩ } (station .serving).toStation
        |> fun u => { station .serving with toStation := u })
      ∧ State.reset.port.timer = none ∧ State.reset.port.localSteps < 4 ∧ (station .serving).port.timer = some 2 := by
  have free : ∀ s : State, s.engines = (station .serving).engines → ∀ e eng, engineAt s.toStation e ≠ some eng := by
    intro s h e eng he
    have unbound : ∀ e, ((station .serving).engines.get e).bound = none := by decide
    rw [engineAt, h, unbound e] at he
    cases he
  refine ⟨⟨rfl, by decide, ?_, fun e eng h => absurd h (free _ rfl e eng), ?_, by decide⟩,
    ⟨rfl, by decide, ?_, ?_, ?_, by decide⟩, rfl, by decide, rfl⟩
  · intro b k h
    have fresh : ∀ b, (State.reset.store.banks.get b).pendingClose = none := by decide
    rw [fresh b] at h
    cases h
  · intro r h
    cases h
  · intro b k h
    have fresh : ∀ b, ((station .serving).store.banks.get b).pendingClose = none := by decide
    rw [show ((setEngine 0 _ (station .serving).toStation).store.banks.get b).pendingClose = none from fresh b] at h
    cases h
  · intro e eng h
    have all : ∀ e : Fin 16, ((engineAt (setEngine 0 { engine with ring := List.replicate 17 ⟨7, ⟨0, 0⟩⟩ }
        (station .serving).toStation) e).all fun g =>
          decide (g.pointer.burst < g.area.length) && decide (16 < g.ring.length + 16 * g.flights.length)) = true := by
      decide +kernel
    have := all e
    rw [h] at this
    simpa using this
  · intro r h
    cases h

/-- The idle store states, and the quiet states with a step to go and at their last. -/
theorem witness_IdleStoreStepMovesTheClock_states :
    let s := fun st => (withStore State.reset st).store
    storeIdles State.reset.store ∧ storeIdles (s .selfRenew) ∧ storeIdles (s .stopped)
      ∧ storeIdles { s .ready with debt := -2 } ∧ (s .waking).state = .waking ∧ { s .setting with quiet := 1 }.quiet ≤ 1
      ∧ ¬ { s .waking with quiet := 4 }.quiet ≤ 1 :=
  ⟨Or.inl ⟨rfl, rfl⟩, Or.inr (Or.inl ⟨rfl, rfl⟩), Or.inr (Or.inr (Or.inl rfl)),
    Or.inr (Or.inr (Or.inr ⟨rfl, rfl, by decide⟩)), rfl, by decide, by decide⟩

theorem witness_OwnerPositionFillsTheView_free :
    ∃ s : State, s.port.timer ≠ none ∧ s.port.ownerNext ≤ (47 : Channel).val ∧ s.table.claimed ≠ some 47
      ∧ s.table.holding.get 47 = .none ∧ laneWord [2, 9] ≠ s.number := ⟨station .serving, by decide⟩

theorem witness_OwnerPositionFillsTheView_held :
    ∃ s : State, s.port.timer ≠ none ∧ s.port.ownerNext ≤ (0 : Channel).val ∧ s.table.claimed ≠ some 0
      ∧ s.table.holding.get 0 ≠ .none ∧ s.table.stopped = false ∧ wins s.number [5, 4] = true :=
  ⟨pooled (station .serving) 0, by decide⟩

theorem witness_ClaimIsSettled :
    ∃ s : State, s.port.timer ≠ none ∧ s.port.ownerNext ≤ (22 : Channel).val ∧ s.table.claimed = some 22
      ∧ s.table.stopped = false ∧ wins s.number [6] = true ∧ wins s.number [3] = false :=
  ⟨{ station .serving with table := { ChannelTable.fresh with claimed := some 22 } }, by decide⟩

/-- A claim in flight with 3, and with 4, channels in POOL. -/
theorem witness_ClaimIsSettled_pool :
    let three := pooled (pooled (pooled (station .serving) 1) 2) 3
    let s := fun u : State => ({ u with table := { u.table with claimed := some 22 } } : State)
    (s three).table.claimed = some 22 ∧ (s three).table.stopped = false ∧ (s three).table.pool.length < 4
      ∧ (s (pooled three 4)).table.claimed = some 22 ∧ 4 ≤ (s (pooled three 4)).table.pool.length
      ∧ (s (pooled three 4)).table.pool = [1, 2, 3] ++ [4] ∧ (4 : Channel) ≠ 22
      ∧ wins (s three).number [6] = true := by decide

theorem witness_LostChannelIsTornDown :
    ∃ s : State, s.port.timer ≠ none ∧ s.port.ownerNext ≤ (14 : Channel).val ∧ s.table.claimed ≠ some 14
      ∧ s.table.stopped = false ∧ (s.table.holding.get 14).inService = true ∧ wins s.number [2] = false
      ∧ s.orders.state.answers = true ∧ s.orders.latch = none :=
  ⟨holding (bound (station .serving)) 14 (.cycle (cycleRecord .playing 5 3 512 [])), by decide⟩

/-- A LOST that meets a notice of its own kind, of a higher kind code and of a lower one. -/
theorem witness_LostChannelIsTornDown_latched :
    let s := fun n => ({ holding (station .serving) 9 (.tone (toneRecord true 3 512)) with
      orders := { (station .serving).orders with latch := some n } } : State)
    (s lost).orders.latch = some lost ∧ lost.kind.code ≤ lost.kind.code
      ∧ (s { lost with kind := .grade }).orders.latch = some { lost with kind := .grade }
      ∧ lost.kind.code ≤ ({ lost with kind := .grade } : Notice).kind.code
      ∧ (s { lost with kind := .fault }).orders.latch = some { lost with kind := .fault }
      ∧ ({ lost with kind := .fault } : Notice).kind.code < lost.kind.code
      ∧ ((s lost).table.holding.get 9).inService = true ∧ (s lost).orders.state.answers = true := by decide

theorem witness_LostChannelIsTornDown_pool :
    ∃ s : State, s.port.timer ≠ none ∧ s.port.ownerNext ≤ (14 : Channel).val ∧ s.table.claimed ≠ some 14
      ∧ s.table.stopped = false ∧ s.table.holding.get 14 = .pool ∧ wins s.number [2] = false :=
  ⟨pooled (station .serving) 14, by decide⟩

theorem witness_DuplicateIdentityStopsTheStation :
    ∃ s : State, s.port.timer ≠ none ∧ s.port.ownerNext ≤ (9 : Channel).val ∧ s.table.holding.get 9 = .none
      ∧ s.table.claimed ≠ some 9 ∧ s.table.stopped = false ∧ s.orders.state.answers = true ∧ laneWord [4] = s.number :=
  ⟨station .listening, by decide⟩

theorem witness_UndrivenSamplePositionPasses :
    ∃ s : State, s.port.timer ≠ none ∧ s.port.sampleNext ≤ (9 : Channel).val ∧ (9 : Channel).val < s.port.ownerNext
      ∧ (s.table.holding.get 9).sounds = false ∧ hears s.toStation 9 = false :=
  ⟨{ station .serving with port := { (station .serving).port with ownerNext := 10 } }, by decide⟩

/-- The recorder at each of the clauses: quiet and loud codes, the loud run at 2 and at 3, the ring at 31 and at 32, the
end silence and the full area one code away. -/
theorem witness_UndrivenSamplePositionPasses_recorder :
    let s : State := { holding (station .serving) 22 .record with
      port := { (station .serving).port with ownerNext := 23 }, recorder := some (recording .searching) }
    s.port.timer ≠ none ∧ s.port.sampleNext ≤ (22 : Channel).val ∧ (22 : Channel).val < s.port.ownerNext
      ∧ (s.table.holding.get 22).sounds = false ∧ s.recorder = some (recording .searching)
      ∧ (recording .searching).input = some 22 ∧ (recording .searching).started = true
      ∧ (Recording.fresh 300 2 22).phase = .searching ∧ (Recording.fresh 300 2 22).started = false
      ∧ magnitude 255 < s.tables.threshold ∧ s.tables.threshold ≤ magnitude 128
      ∧ ([128, 128] : List Code).length < 3 ∧ ([128, 128, 128] : List Code).length = 3
      ∧ (List.replicate 31 (128 : Code)).length < 32 ∧ ¬ (List.replicate 32 (128 : Code)).length < 32
      ∧ 16 * s.tables.endSilence ≤ 3999 + 1 ∧ 16 * s.tables.areaSize ≤ 32767 + 1 := by decide

/-- A tone channel on channel 9 whose owner position has read back, with the given contention count. -/
def sounding (count : Nat) : State :=
  let s := holding (station .serving) 9 (.tone (toneRecord true 3 512))
  { s with
    port := { s.port with ownerNext := 10, ownerOut := s.port.ownerOut.put 9 (some 4) }
    table := { s.table with view := s.table.view.put 9 (some 4), contention := s.table.contention.put 9 count }
    formed := s.formed.put 9 (some 151) }

/-- Codes that agree, and codes that differ, at the counts 0, 2 and 3. -/
theorem witness_ContentionIsCounted :
    (sounding 0).port.timer ≠ none ∧ (sounding 0).port.sampleNext ≤ (9 : Channel).val ∧ (sounding 0).table.stopped = false
      ∧ (sounding 0).table.holding.get 9 = .tone (toneRecord true 3 512) ∧ ownerHeld (sounding 0).toStation 9 = true
      ∧ (sounding 0).formed.get 9 = some 151 ∧ hears (sounding 0).toStation 9 = false
      ∧ (sounding 0).table.contention.get 9 < 4 ∧ (151 : Code) &&& 255 = 151 ∧ (151 : Code) &&& 0 ≠ 151
      ∧ (sounding 2).table.contention.get 9 < 3 ∧ (sounding 3).table.contention.get 9 = 3
      ∧ (sounding 3).orders.state.answers = true ∧ (sounding 3).orders.latch = none := by decide

/-- A PLAYING cycle in the tone's place. -/
theorem witness_ContentionIsCounted_cycle :
    let s := holding (sounding 3) 9 (.cycle (cycleRecord .playing 5 3 512 []))
    (s.table.holding.get 9).sounds = true ∧ (s.table.holding.get 9).isCycle = true ∧ ownerHeld s.toStation 9 = true
      ∧ s.formed.get 9 = some 151 ∧ hears s.toStation 9 = false ∧ s.table.contention.get 9 = 3
      ∧ s.orders.state.answers = true ∧ s.orders.latch = none := by decide

theorem witness_ContentionIsCounted_surrender :
    4 ≤ (sounding 4).table.contention.get 9 ∧ ((sounding 4).table.holding.get 9).isTone = true
      ∧ (sounding 4).orders.state.answers = true ∧ (sounding 4).orders.latch = none := by decide

theorem witness_BackOffEntryExpires :
    ∃ s : State, { channel := 3, left := 0 } ∈ s.table.backOff :=
  ⟨{ station .serving with table := { ChannelTable.fresh with backOff := [⟨2, 5⟩, ⟨3, 0⟩] } }, by decide⟩

/-- Station 4 before the order position. -/
def beforeOrder (st : StationState) : State :=
  { station st with port := { Port.fresh with timer := some 1 } }

theorem witness_OrderPositionTakesTheWord :
    (beforeOrder .serving).port.timer ≠ none ∧ (beforeOrder .serving).port.orderSeen = false
      ∧ (0b0001_00_00110001_011001000_0_0_0000000#32) ≠ 0
      ∧ (Machine.orderOf 0b0001_00_00110001_011001000_0_0_0000000#32).isSome = true
      ∧ (beforeOrder .serving).orders.state.answers = true ∧ (beforeOrder .serving).orders.countdown = none
      ∧ Machine.orderOf 4294967295#32 = none ∧ (beforeOrder .loading).orders.state.answers = false := by decide

/-- The break count at 14, and at 15, before a word of all zeros. -/
theorem witness_OrderPositionTakesTheWord_break :
    let s := fun n => ({ beforeOrder .serving with
      port := { (beforeOrder .serving).port with breakCount := n } } : State)
    (s 14).port.timer ≠ none ∧ (s 14).port.orderSeen = false ∧ (s 14).port.breakCount + 1 < 16
      ∧ 16 ≤ (s 15).port.breakCount + 1 := by decide

/-- A START JOIN for 200 with channel 14 playing it, and one that finds nothing. -/
theorem witness_JoinIsWeighedInServing :
    let o := order 0 (.join 200 .start false)
    let s := holding (atReply .serving o) 14 (.cycle (cycleRecord .playing 150 40 512 []))
    dueOrder s.toStation = some o
      ∧ (weighJoin (takeOrder s.toStation) o.cls o.tag 200 .start false).isSome = true
      ∧ weighJoin (takeOrder (atReply .serving o).toStation) o.cls o.tag 200 .start false = none
      ∧ dueOrder (atReply .draining o).toStation = some o ∧ (atReply .draining o).orders.state ≠ .serving := by decide

theorem witness_ToneChannelIsACandidate :
    let s := holding (station .serving) 0 (.tone (toneRecord true 254 512))
    s.table.holding.get 0 = .tone (toneRecord true 254 512) ∧ (toneRecord true 254 512).plan = 5
      ∧ (toneRecord true 254 512).listeners < 255 := by decide

/-- A wait of exactly the window, one of a superframe more, and a full list. -/
theorem witness_WaitIsOfferedWithinTheWindow :
    let s := fun t ws => holding (station .serving) 14 (.cycle (cycleRecord .gap t 3 512 ws))
    let a : Ask := { mode := .start, tag := 1, degraded := false }
    (s 1000 []).monitor.grade ≤ 3 ∧ (findEntry (s 1000 []).toStation 200).isSome = true
      ∧ (candidate (s 1000 []).toStation a 200 14).isSome = true
      ∧ (candidate (s 1001 []).toStation a 200 14).isSome = false
      ∧ (candidate (s 10 (List.replicate 8 ⟨1, .start⟩)).toStation a 200 14).isSome = false
      ∧ (cycleRecord .gap 1000 3 512 []).substate = .gap ∧ (cycleRecord .playing 1000 3 512 []).substate = .playing
      ∧ (cycleRecord .priming 2 3 512 []).substate = .priming
      ∧ (cycleRecord .gap 1000 3 512 []).listeners + (cycleRecord .gap 1000 3 512 []).waiting.length < 255 := by decide

/-- A pool channel with a free generator and a free engine: the NEW options exist, and at grade 3 the congestion plan's
alone. -/
theorem witness_NewOptionsExist :
    let s := pooled (station .serving) 30
    let g3 := { s with monitor := { Monitor.fresh with grade := 3 } }
    let a : Ask := { mode := .start, tag := 1, degraded := false }
    (newOption s.toStation a 5).isSome = true ∧ (newOption s.toStation a 63).isSome = false
      ∧ (newOption s.toStation a 200).isSome = true ∧ (newOption s.toStation a 64).isSome = false
      ∧ (newOption g3.toStation a 3).isSome = true ∧ (newOption g3.toStation a 5).isSome = false
      ∧ (newOption g3.toStation a 200).isSome = false := by decide

/-- An EXISTING option with the longest wait beside a NEW one. -/
theorem witness_ExistingOptionIsPreferred :
    let s := pooled (holding (station .serving) 14 (.cycle (cycleRecord .gap 1000 3 512 []))) 30
    let a : Ask := { mode := .start, tag := 1, degraded := false }
    s.monitor.grade ≤ 3 ∧ (candidate s.toStation a 200 14).isSome = true ∧ (newOption s.toStation a 200).isSome = true := by
  decide

/-- At grade 2 the short form on channel 14 is offered for 200. -/
theorem witness_SubstituteOnlyUnderCongestion :
    let s := holding (station .serving) 14 (.cycle { cycleRecord .gap 1 30 512 [] with announcement := 201 })
    let g2 := { s with monitor := { Monitor.fresh with grade := 2 } }
    (weighJoin g2.toStation 1 77 200 .any false).map Offer.degraded = some true
      ∧ weighJoin g2.toStation 1 77 200 .any true = none
      ∧ (weighJoin g2.toStation 0 77 200 .any true).map Offer.degraded = some true := by decide

/-- An accepted option; and at grade 2 no option, with a congestion plan on a channel and without one. -/
theorem witness_SubstituteOnlyUnderCongestion_steps :
    let a : Ask := { mode := .any, tag := 77, degraded := false }
    let u : Ask := { mode := .any, tag := 77, degraded := true }
    let s := holding (station .serving) 14 (.cycle (cycleRecord .gap 1 30 512 []))
    let p := holding (station .serving) 9 (.tone { toneRecord false 1 512 with plan := 3 })
    let g2 : State := { p with monitor := { Monitor.fresh with grade := 2 } }
    (weighSignal s.toStation a 200).isSome = true ∧ weighSignal g2.toStation a 200 = none ∧ 2 ≤ g2.monitor.grade
      ∧ (findEntry g2.toStation 200).bind Entry.shortForm = some 201 ∧ weighSignal g2.toStation u 201 = none
      ∧ g2.tables.congestionPlan = some 3 ∧ (weighSignal g2.toStation u 3).isSome = true
      ∧ weighSignal g2.toStation a 77 = none ∧ findEntry g2.toStation 77 = none
      ∧ { g2.tables with congestionPlan := none }.congestionPlan = none := by decide

/-- Listeners 0, 1 and 2, standing and not, at the reply position of a LEAVE. -/
theorem witness_LeaveTakesAToneListenerOff :
    let o := order 0 (.leave 9)
    let s := fun m n => holding (atReply .serving o) 9 (.tone (toneRecord m n 512))
    dueOrder (s true 0).toStation = some o ∧ (s true 0).table.holding.get 9 = .tone (toneRecord true 0 512)
      ∧ dueOrder (s true 1).toStation = some o ∧ (toneRecord true 1 512).standing = true
      ∧ dueOrder (s false 2).toStation = some o ∧ 2 ≤ (toneRecord false 2 512).listeners
      ∧ dueOrder (s false 1).toStation = some o ∧ (toneRecord false 1 512).standing = false := by decide

/-- LEAVE for a channel in POOL, in RECORD and not held, and for channel number 48. -/
theorem witness_LeaveTakesAToneListenerOff_unmatched :
    let s := fun n => holding (pooled (atReply .serving (order 0 (.leave n))) 30) 22 .record
    dueOrder (s 30).toStation = some (order 0 (.leave 30)) ∧ (s 30).table.holding.get 30 = .pool
      ∧ dueOrder (s 22).toStation = some (order 0 (.leave 22)) ∧ (s 22).table.holding.get 22 = .record
      ∧ dueOrder (s 47).toStation = some (order 0 (.leave 47)) ∧ (s 47).table.holding.get 47 = .none
      ∧ dueOrder (s 48).toStation = some (order 0 (.leave 48)) := by decide

/-- A matching record behind another, no match with listeners, and no match without. -/
theorem witness_LeaveWithdrawsACycleCaller :
    let o := order 0 (.leave 47)
    let s := fun n ws => holding (atReply .resting o) 47 (.cycle (cycleRecord .priming 2 n 512 ws))
    dueOrder (s 0 []).toStation = some o
      ∧ (cycleRecord .priming 2 0 512 [⟨50, .any⟩, ⟨49, .start⟩, ⟨49, .any⟩]).waiting =
          [⟨50, .any⟩] ++ ⟨49, .start⟩ :: [⟨49, .any⟩]
      ∧ (∀ q ∈ [(⟨50, .any⟩ : PendingJoin)], q.tag ≠ o.tag)
      ∧ (∀ q ∈ (cycleRecord .priming 2 3 512 [⟨50, .any⟩]).waiting, q.tag ≠ o.tag)
      ∧ 1 ≤ (cycleRecord .priming 2 3 512 [⟨50, .any⟩]).listeners
      ∧ (cycleRecord .priming 2 0 512 []).listeners = 0 := by decide

theorem witness_ProbeReportsTheCondition :
    let o := order 0 (.probe 4)
    let x := order 0 (.probe 3)
    dueOrder (atReply .resting o).toStation = some o ∧ 4 = (atReply .resting o).number.toNat
      ∧ dueOrder (atReply .resting x).toStation = some x ∧ 3 ≠ (atReply .resting x).number.toNat := by decide

/-- A station that can record entry 300, and with class 3 the protected entry 301, on channel 22. -/
theorem witness_RecordBeginsARecording :
    let o := fun cls id => order cls (.record 4 id)
    let s := fun cls id => pooled (atReply .serving (o cls id)) 22
    dueOrder (s 2 300).toStation = some (o 2 300) ∧ dueOrder (s 3 301).toStation = some (o 3 301)
      ∧ (s 2 300).number.toNat = 4 ∧ (s 2 300).recorder = none
      ∧ ((findEntry (s 2 300).toStation 300).map fun e => (e.pair, e.guarded, e.alternate)) = some (some 0, false, some 2048)
      ∧ (s 2 300).table.pool = [22] ∧ (s 2 300).table.holding.get 22 = .pool
      ∧ (∀ d, (s 2 300).table.holding.get d ≠ .record) ∧ noEngines (s 2 300) = true
      ∧ (s 2 300).port.ownerNext ≤ (22 : Channel).val ∧ (s 2 300).table.claimed ≠ some 22
      ∧ (s 2 300).table.stopped = false ∧ wins (s 2 300).number [7] = true ∧ wins (s 2 300).number [2] = false
      ∧ (s 2 300).orders.latch = none := by decide

theorem witness_RecordIsRefusedInOrder_other :
    let o := order 2 (.record 3 300)
    dueOrder (atReply .serving o).toStation = some o ∧ 3 ≠ (atReply .serving o).number.toNat := by decide

/-- One state for each reason of a refused RECORD. -/
theorem witness_RecordIsRefusedInOrder :
    let o := fun cls id => order cls (.record 4 id)
    let s := fun st cls id => atReply st (o cls id)
    dueOrder (s .serving 1 300).toStation = some (o 1 300)
      ∧ dueOrder (s .draining 2 300).toStation = some (o 2 300) ∧ (s .draining 2 300).orders.state ≠ .serving
      ∧ findEntry (s .serving 2 77).toStation 77 = none
      ∧ ((findEntry (s .serving 2 200).toStation 200).map fun e => e.pair) = some none
      ∧ ((findEntry (s .serving 2 301).toStation 301).map fun e => (e.pair.isSome, e.guarded)) = some (true, true)
      ∧ (s .serving 2 300).table.pool = []
      ∧ (engineAt (setEngine 15 (Engine.fresh 14 ⟨2048, 4⟩) (pooled (s .serving 2 300) 22).toStation) 15).map
          (fun g => g.area.base) = some 2048 := by decide

/-- A pool channel free for a RECORD, with and without a channel already in RECORD. -/
theorem witness_RecordIsRefusedInOrder_held :
    let o := order 2 (.record 4 300)
    let s := pooled (atReply .serving o) 22
    dueOrder (holding s 23 .record).toStation = some o ∧ (holding s 23 .record).table.holding.get 23 = .record
      ∧ (holding s 23 .record).table.pool ≠ [] ∧ (holding s 23 .record).recorder = none
      ∧ ∀ c, s.table.holding.get c ≠ .record := by decide

/-- A capture on channel 22 that a FINISH of class 2 can end. -/
theorem witness_DiscardEndsTheRecording :
    let o := order 2 (.finish 4 .discard)
    let s : State := { holding (atReply .draining o) 22 .record with recorder := some (recording .searching) }
    dueOrder s.toStation = some o ∧ s.number.toNat = 4 ∧ (recording .searching).phase ≠ .committing
      ∧ (recording .searching).cls ≤ o.cls ∧ (recording .searching).input = some 22 := by decide

/-- A capture with codes left to write, and one with none. -/
theorem witness_CommitTrimsTheRecording :
    let o := order 2 (.finish 4 .commit)
    let s : State := { holding (atReply .serving o) 22 .record with recorder := some (recording .capturing) }
    let w : Recording := { recording .held with ring := [], nextBurst := 2 }
    dueOrder s.toStation = some o ∧ (recording .capturing).phase = .capturing ∧ (recording .capturing).cls ≤ o.cls
      ∧ (recording .capturing).kept ≠ [] ∧ w.kept = [] ∧ w.phase = .held ∧ w.input = some 22
      ∧ ((findEntry s.toStation 300).map fun e => e.alternate) = some (some 2048) := by decide

/-- A FINISH of class 1, one of class 2 with no recording, with one being committed and with one of class 3, a COMMIT
with nothing placed, and a FINISH for another station. -/
theorem witness_FinishIsRefusedInOrder :
    let o := fun cls n => order cls (.finish n .commit)
    let s := fun cls n r => ({ atReply .serving (o cls n) with recorder := r } : State)
    dueOrder (s 1 4 none).toStation = some (o 1 4) ∧ finishRefused (s 1 4 none) (o 1 4).cls .cls
      ∧ finishRefused (s 2 4 none) (o 2 4).cls .state
      ∧ finishRefused (s 2 4 (some (recording .committing))) (o 2 4).cls .state
      ∧ finishRefused (s 2 4 (some { recording .searching with cls := 3 })) (o 2 4).cls .cls
      ∧ (s 2 4 (some (recording .searching))).recorder = some (recording .searching)
      ∧ (recording .searching).phase = .searching ∧ (recording .searching).cls ≤ (o 2 4).cls
      ∧ dueOrder (s 2 3 none).toStation = some (o 2 3) ∧ 3 ≠ (s 2 3 none).number.toNat
      ∧ (let d := order 2 (.finish 3 .discard)
        dueOrder (atReply .serving d).toStation = some d) := by
  refine ⟨by decide, Or.inl ⟨rfl, by decide⟩, Or.inr (Or.inl ⟨rfl, by decide, fun r h => by cases h⟩),
    Or.inr (Or.inl ⟨rfl, by decide, fun r h => by cases h; rfl⟩),
    Or.inr (Or.inr ⟨rfl, by decide, _, rfl, by decide, by decide⟩), rfl, rfl, by decide, by decide, by decide, by decide⟩

/-- A SERVICE of class 1, a FORCE of class 2, and one for another station. -/
theorem witness_OtherServicePairsAreRefused_class :
    let o := fun cls n a => order cls (.service n a)
    dueOrder (atReply .serving (o 1 4 .drain)).toStation = some (o 1 4 .drain) ∧ (o 1 4 .drain).cls < 2
      ∧ dueOrder (atReply .serving (o 2 4 .force)).toStation = some (o 2 4 .force) ∧ (o 2 4 .force).cls < 3
      ∧ dueOrder (atReply .serving (o 2 3 .none)).toStation = some (o 2 3 .none)
      ∧ 3 ≠ (atReply .serving (o 2 3 .none)).number.toNat := by decide

/-- A refused pair of each action. -/
theorem witness_OtherServicePairsAreRefused :
    let o := fun cls a => order cls (.service 4 a)
    dueOrder (atReply .draining (o 2 .drain)).toStation = some (o 2 .drain) ∧ serviceTarget .draining .drain = none
      ∧ dueOrder (atReply .resting (o 3 .force)).toStation = some (o 3 .force) ∧ serviceTarget .resting .force = none
      ∧ dueOrder (atReply .serving (o 2 .back)).toStation = some (o 2 .back) ∧ serviceTarget .serving .back = none
      ∧ dueOrder (atReply .serving (o 2 .none)).toStation = some (o 2 .none) ∧ serviceTarget .serving .none = none := by
  decide

/-- A DRAIN in SERVING with a standing channel that nobody hears, and one in LISTENING. -/
theorem witness_DrainTakesTheStationOut :
    let o := order 2 (.service 4 .drain)
    let s := holding (atReply .serving o) 9 (.tone (toneRecord true 0 512))
    dueOrder s.toStation = some o ∧ s.orders.state = .serving ∧ s.table.holding.get 9 = .tone (toneRecord true 0 512)
      ∧ (toneRecord true 0 512).standing = true ∧ (toneRecord true 0 512).listeners = 0
      ∧ dueOrder (atReply .listening o).toStation = some o := by decide

/-- A standing channel with a listener, one that does not stand, and a cycle, in the same station. -/
theorem witness_DrainTakesTheStationOut_kept :
    let o := order 2 (.service 4 .drain)
    let s := holding (holding (holding (atReply .serving o) 9 (.tone (toneRecord true 1 512))) 10
      (.tone (toneRecord false 0 512))) 14 (.cycle (cycleRecord .gap 2 1 5 []))
    dueOrder s.toStation = some o ∧ s.table.holding.get 9 = .tone (toneRecord true 1 512)
      ∧ (toneRecord true 1 512).standing = true ∧ 1 ≤ (toneRecord true 1 512).listeners
      ∧ s.table.holding.get 10 = .tone (toneRecord false 0 512) ∧ (toneRecord false 0 512).standing = false
      ∧ (s.table.holding.get 14).isTone = false := by decide

theorem witness_ForceDropsEverything :
    let o := order 3 (.service 4 .force)
    dueOrder (atReply .serving o).toStation = some o ∧ dueOrder (atReply .draining o).toStation = some o
      ∧ dueOrder (atReply .listening o).toStation = some o ∧ o.cls = 3 := by decide

theorem witness_ReturnBringsTheStationBack :
    let o := order 2 (.service 4 .back)
    dueOrder (atReply .draining o).toStation = some o ∧ dueOrder (atReply .resting o).toStation = some o
      ∧ (withStore (atReply .resting o) .selfRenew).store.state = .selfRenew
      ∧ (atReply .resting o).store.state ≠ .selfRenew := by decide

/-- A notice position with a notice pending, one between driving and outcome, and both outcomes. -/
theorem witness_NoticePositionDrivesTheLatch :
    let s : State := { station .serving with orders := { (station .serving).orders with latch := some lost } }
    s.port.timer ≠ none ∧ s.port.orderSeen = true ∧ s.orders.seen2 = .noticeMark ∧ s.orders.noticeUsed = false
      ∧ s.orders.countdown = none ∧ s.orders.latch = some lost
      ∧ wins (noticeWord lost s.number) [] = true ∧ wins (noticeWord lost s.number) [0] = false
      ∧ (driveNotice s.toStation).orders.driving = some lost
      ∧ (driveNotice s.toStation).port.replyOut = some (noticeWord lost s.number) := by decide

/-- A FAULT in the countdown that wins, and a countdown at 0. -/
theorem witness_HaltingEmptiesTheOrderUnit :
    let n : Notice := { kind := .fault, channel := some 9, detail := 1 }
    let s : State := { station .serving with
      orders := { (station .serving).orders with latch := some n, countdown := some 7 } }
    s.port.timer ≠ none ∧ s.port.orderSeen = true ∧ s.orders.seen2 = .noticeMark ∧ s.orders.noticeUsed = false
      ∧ s.orders.latch = some n ∧ wins (noticeWord n s.number) [] = true
      ∧ ({ s with orders := { s.orders with countdown := some 0 } } : State).orders.countdown = some 0 := by decide

/-- A tone, a cycle joined at once, a cycle waited for, a lost channel; and a lost outcome. -/
theorem witness_ExistingOfferIsBound :
    let s := fun w h => bidding (holding (station .serving) 14 h) (offer w)
    (s .listener .none).offer = some (offer .listener) ∧ (s .listener .none).port.replyOut.isSome = true
      ∧ wins ((offer .listener).word 4) [] = true ∧ wins ((offer .listener).word 4) [0] = false
      ∧ (offer .listener).isNew = false ∧ (offer .pending).isNew = false
      ∧ (s .listener (.tone (toneRecord false 1 5))).table.holding.get 14 = .tone (toneRecord false 1 5)
      ∧ (s .pending (.cycle (cycleRecord .gap 2 1 5 []))).table.holding.get 14 = .cycle (cycleRecord .gap 2 1 5 [])
      ∧ (s .listener .none).table.holding.get 14 = .none := by decide

/-- A pool channel named in a won NEW offer, with a generator and an engine free. -/
theorem witness_NewOfferIsBound :
    let s := fun w => bidding (pooled (station .serving) 14) (offer w)
    (s .newTone).offer = some (offer .newTone) ∧ (s .newTone).port.replyOut = some ((offer .newTone).word 4)
      ∧ wins ((offer .newTone).word 4) [] = true ∧ (s .newTone).table.holding.get 14 = .pool
      ∧ freeGenerator (s .newTone).toStation = some 0 ∧ countHolding (s .newTone).toStation Holding.isTone < 8
      ∧ freeEngine (s .newCycle).toStation = some 0 ∧ (findEntry (s .newCycle).toStation 200).isSome = true
      ∧ countHolding (s .newCycle).toStation Holding.isCycle < 16 := by decide

theorem witness_TakeAfterLossIsRefused :
    let s : State := bidding { station .serving with
      table := { ChannelTable.fresh with view := (Tbl.fill 48 none).put 14 (some 2) } } (offer .newTone)
    s.offer = some (offer .newTone) ∧ (offer .newTone).isNew = true ∧ s.port.replyOut = some ((offer .newTone).word 4)
      ∧ wins ((offer .newTone).word 4) [] = true ∧ s.table.holding.get 14 = .none ∧ s.table.stopped = false
      ∧ s.table.view.get 14 = some 2 ∧ s.orders.state.answers = true ∧ s.orders.latch = none := by decide

/-- A deserted start, and one with a caller waiting. -/
theorem witness_StartBoundaryStartsOrEnds :
    let s := fun ws => holding (bound (station .serving)) 14 (.cycle (cycleRecord .priming 0 0 512 ws))
    (s []).table.holding.get 14 = .cycle (cycleRecord .priming 0 0 512 [])
      ∧ (cycleRecord .priming 0 0 512 []).t = 0 ∧ (cycleRecord .priming 0 0 512 []).substate ≠ .playing
      ∧ (cycleRecord .priming 0 0 512 [⟨49, .start⟩]).waiting ≠ []
      ∧ engineAt (s [⟨49, .start⟩]).toStation 0 = some engine
      ∧ (findEntry (s [⟨49, .start⟩]).toStation 200).isSome = true := by decide

/-- A deserted audio end, and one with listeners and a gap, the pointer in the ended cycle and in the next. -/
theorem witness_AudioEndOpensTheGap :
    let s := fun n => holding (bound (station .serving)) 14 (.cycle (cycleRecord .playing 3 n 512 []))
    (s 0).table.holding.get 14 = .cycle (cycleRecord .playing 3 0 512 [])
      ∧ ((findEntry (s 0).toStation 200).map fun e => e.gap) = some 3 ∧ (cycleRecord .playing 3 0 512 []).listeners = 0
      ∧ (cycleRecord .playing 3 2 512 []).listeners ≠ 0 ∧ engineAt (s 2).toStation 0 = some engine
      ∧ engine.pointer.cycle ≤ engine.mark.cycle
      ∧ ({ engine with pointer := ⟨1, 0⟩ } : Engine).mark.cycle < ({ engine with pointer := ⟨1, 0⟩ } : Engine).pointer.cycle := by
  decide

/-- A gap of 0: announcement 201. -/
theorem witness_AudioEndOpensTheGap_no_gap :
    let r := { cycleRecord .playing 0 2 512 [] with announcement := 201 }
    let s := holding (bound (station .serving)) 14 (.cycle r)
    s.table.holding.get 14 = .cycle r ∧ ((findEntry s.toStation 201).map fun e => e.gap) = some 0 ∧ r.t = 0
      ∧ r.listeners ≠ 0 ∧ engineAt s.toStation 0 = some engine := by decide

/-- Timers that run out with nobody listening, a notice pending. -/
theorem witness_QuietExpiryClearsTheListeners_none :
    let s := fun h => ({ holding (station .serving) 14 h with
      orders := { (station .serving).orders with latch := some lost } } : State)
    (s (.cycle (cycleRecord .gap 1 0 0 []))).table.holding.get 14 = .cycle (cycleRecord .gap 1 0 0 [])
      ∧ (s (.tone (toneRecord true 0 0))).table.holding.get 14 = .tone (toneRecord true 0 0)
      ∧ (s (.tone (toneRecord false 0 0))).table.holding.get 14 = .tone (toneRecord false 0 0) := by decide

theorem witness_QuietExpiryClearsTheListeners :
    let s := fun h => holding (station .serving) 14 h
    (s .none).orders.state.answers = true ∧ (s .none).orders.latch = none
      ∧ (s (.cycle (cycleRecord .gap 1 9 0 []))).table.holding.get 14 = .cycle (cycleRecord .gap 1 9 0 [])
      ∧ (s (.tone (toneRecord true 1 0))).table.holding.get 14 = .tone (toneRecord true 1 0)
      ∧ (s (.tone (toneRecord false 1 0))).table.holding.get 14 = .tone (toneRecord false 1 0) := by decide

/-- Plan 5's first step has run out; its second is entered, and after that its first. -/
theorem witness_StepExpiryEntersTheNextStep :
    let s := holding (station .serving) 9 (.tone (toneRecord false 1 512))
    s.table.holding.get 9 = .tone (toneRecord false 1 512) ∧ (toneRecord false 1 512).mode = .timed
      ∧ (toneRecord false 1 512).remaining = 0 ∧ ((findPlan s.toStation 5).map fun p => p.steps.length) = some 2
      ∧ ((findPlan s.toStation 5).bind fun p => p.steps[1]?.map CadenceStep.cond) = some .always
      ∧ ((findPlan s.toStation 5).bind fun p => p.steps[p.loop]?.map CadenceStep.cond) = some .always := by decide

/-- Plan 9's second step is false at grade 0. Its first is true with no listeners, one candidate later; with a listener
none is true. -/
theorem witness_StepExpiryEntersTheNextStep_search :
    let s := holding (station .serving) 9 (.tone { toneRecord false 1 512 with plan := 9 })
    let p : Plan :=
      { id := 9, sets := [tone]
        steps := [{ sound := some 0, duration := some 2, cond := .noListeners },
          { sound := none, duration := some 3, cond := .gradeHigh }]
        loop := 0 }
    findPlan s.toStation 9 = some p ∧ p.loop < p.steps.length
      ∧ ¬ candidateTrue p 0 0 (nextCandidate p (0, 0)) 0 ∧ candidateTrue p 0 0 (nextCandidate p (0, 0)) 1
      ∧ ∀ k, k < p.steps.length → ¬ candidateTrue p 0 1 (nextCandidate p (0, 0)) k := by
  refine ⟨by decide, by decide, ?_, ⟨_, rfl, rfl⟩, ?_⟩
  · rintro ⟨st, h, h'⟩
    cases h
    exact absurd (show 2 ≤ 0 from h') (by decide)
  · rintro k hk ⟨st, h, h'⟩
    match k, hk with
    | 0, _ => cases h; exact absurd (show 2 ≤ 0 from h') (by decide)
    | 1, _ => cases h; exact absurd (show 1 = 0 from h') (by decide)

/-- Before a boundary: a timed step with 2 and with 1 remaining, a held step whose condition is true and one whose is
false, and a generator that waits. -/
theorem witness_StepExpiryEntersTheNextStep_boundary :
    let r := { toneRecord false 1 512 with plan := 9 }
    let s := fun q => { holding (station .serving) 9 (.tone q) with port := { (station .serving).port with frameCount := 15 } }
    (s r).table.holding.get 9 = .tone r ∧ boundaryPulse false (s r) ∧ 2 ≤ r.quiet ∧ (9 : Channel) ∉ (s r).table.pool
      ∧ r.mode ≠ .starting ∧ { r with remaining := 2 }.remaining = 2 ∧ { r with remaining := 1 }.remaining = 1
      ∧ condTrue .noListeners { r with mode := .held, listeners := 0 }.listeners 0 0
      ∧ ¬ condTrue .noListeners { r with mode := .held }.listeners 0 0
      ∧ { r with mode := .waiting }.step < 2 ∧ ∀ n, (s r).port.timer = some n → 2 ≤ n := by
  refine ⟨by decide, Or.inr (by decide), by decide, by decide, by decide, rfl, rfl, rfl, ?_, by decide, ?_⟩
  · exact show ¬ (1 : Nat) = 0 by decide
  · intro n h
    have : n = 2 := by simpa [station] using h.symm
    omega

theorem witness_BoundaryCountsComeToTheirEnds :
    let s : State := { station .listening with
      monitor := { Monitor.fresh with grade := 2, fall := 8 }
      orders := { OrderUnit.fresh .listening with listening := 16 } }
    s.orders.latch = none ∧ 8 ≤ s.monitor.fall ∧ s.orders.state.answers = true ∧ s.orders.state = .listening
      ∧ s.orders.countdown = none ∧ 16 ≤ s.orders.listening := by decide

/-! The store commands: a READY store at step 40 with one request. -/

/-- A playing channel 14 whose engine asks for burst 0, in a station with a READY store. -/
def asking : State :=
  let s := withStore (holding (bound (station .serving)) 14 (.cycle (cycleRecord .playing 5 3 512 []))) .ready
  { s with store := { s.store with debt := -2 } }

/-- The same with bank 0 open on a row. -/
def askingOpen (row : Nat) : State :=
  { asking with store := { asking.store with
    banks := asking.store.banks.put 0 { Bank.fresh with openRow := some row, lastOpen := some 30 } } }

/-- An OPEN for the request, and a CLOSE of the row in its way. -/
theorem witness_OpenAndCloseChangeTheBank :
    decidedNow asking.toStation = some (.openRow 0 0) ∧ decidedNow (askingOpen 5).toStation = some (.close 0) := by decide +kernel

/-- A FETCH-CLOSE for the request alone; a FETCH where another engine wants the row too. -/
theorem witness_FetchReadsTheBurstAskedFor :
    decidedNow (askingOpen 0).toStation = some (.fetch 0 true)
      ∧ engineAt (wrapEngines (prepareStep (askingOpen 0).toStation)) 0 = some engine := by decide +kernel

/-- An engine whose request lies before its play mark, in a GAP cycle and in a PLAYING one; an engine whose pointer is
past the playing cycle, and the next burst of one that reaches its end by the FETCH. -/
theorem witness_FetchReadsTheBurstAskedFor_pointer :
    let late : Engine := { engine with mark := ⟨0, 40⟩ }
    let past : Engine := { engine with pointer := ⟨0, 4⟩ }
    let r := cycleRecord .playing 5 3 512 []
    aimsAfresh late ∧ ¬ aimsAfresh engine ∧ pastPlaying r past ∧ ¬ pastPlaying r engine
      ∧ pastPlaying r { engine with pointer := ⟨0, 3 + 1⟩ } ∧ asking.table.holding.get engine.channel = .cycle r
      ∧ engineAt asking.toStation 0 = some engine ∧ (findEntry asking.toStation r.announcement).isSome = true := by
  refine ⟨⟨by decide, by decide, rfl, by decide⟩, fun h => absurd h.2.2.2 (by decide), ⟨rfl, rfl, by decide⟩,
    fun h => absurd h.2.2 (by decide), ⟨rfl, rfl, by decide⟩, by decide, by decide, by decide⟩

/-- Requests before the scheduler: one whose OPEN is decided, and one that nothing is legal for, its bank opened in
this very step's place. -/
theorem witness_StoreStepIsCounted :
    let p := wrapEngines (prepareStep asking.toStation)
    let late : State := { askingOpen 5 with store := { (askingOpen 5).store with
      banks := asking.store.banks.put 0 { Bank.fresh with openRow := some 5, lastOpen := some 39 } } }
    asking.store.issued = none ∧ p.store.state = .ready ∧ p.store.work = .none
      ∧ (engineRequest p 0).isSome = true ∧ (decidedNow asking.toStation).isSome = true
      ∧ (engineRequest (wrapEngines (prepareStep late.toStation)) 0).isSome = true
      ∧ decidedNow late.toStation = none := by decide +kernel

/-- A READY store with the renew work and the debt given, bank 0 open or every bank closed. -/
def renewing (work : RenewWork) (isOpen : Bool) (debt : Int) : State :=
  let s := withStore (station .resting) .ready
  { s with store := { s.store with
      work := work, debt := debt
      banks := if isOpen then s.store.banks.put 0 { Bank.fresh with openRow := some 5, lastOpen := some 30 }
        else s.store.banks } }

/-- That store as its step ranks the requests. -/
def renewingStep (work : RenewWork) (isOpen : Bool) (debt : Int) : Station :=
  wrapEngines (prepareStep (renewing work isOpen debt).toStation)

theorem apart_of_all {x : Option Nat} {d n : Nat} (h : (x.all fun k => decide (k + d ≤ n)) = true) : apart x d n := by
  intro k hk
  subst hk
  simpa using h

/-- Renew work in hand with every bank closed and with bank 0 open and closable, by debt or for self-renewal, and a step
that nobody asks at: with the debt above -2 and at it. -/
theorem witness_StoreStepIsCounted_renew :
    decidedNow (renewing .forced false 8).toStation = some .renew
      ∧ decidedNow (renewing .forced true 8).toStation = some (.close 0)
      ∧ decidedNow (renewing .entry false 0).toStation = some .selfRenewEntry
      ∧ decidedNow (renewing .entry true 0).toStation = some (.close 0)
      ∧ decidedNow (renewing .none false (-1)).toStation = some .renew
      ∧ decidedNow (renewing .none true (-1)).toStation = some (.close 0)
      ∧ decidedNow (renewing .none true (-2)).toStation = none := by decide +kernel

theorem witness_StoreStepIsCounted_closed :
    keepsTheRules (renewingStep .forced true 8) (.close 0) ∧ (∀ b, isClosed (renewingStep .forced false 8).store b)
      ∧ ¬ (∀ b, isClosed (renewingStep .forced true 8).store b) ∧ (renewingStep .forced true 8).store.state = .ready
      ∧ ∀ q, ¬ asks (renewingStep .none false (-1)) q := by
  have closed : ∀ b, ((renewingStep .forced false 8).store.banks.get b).openRow = none
      ∧ ((renewingStep .forced false 8).store.banks.get b).pendingClose = none
      ∧ ((renewingStep .forced false 8).store.banks.get b).lastClose.all
          (fun k => decide (k + 1 ≤ (renewingStep .forced false 8).store.step)) = true := by decide +kernel
  have silent : recorderRequest (renewingStep .none false (-1)) = none ∧ loaderRequest (renewingStep .none false (-1)) = none
      ∧ ∀ e, (engineRequest (renewingStep .none false (-1)) e).isSome = false := by decide +kernel
  refine ⟨⟨by decide +kernel, by decide +kernel, by decide +kernel, apart_of_all (by decide +kernel),
      apart_of_all (by decide +kernel), apart_of_all (by decide +kernel)⟩,
    fun b => ⟨(closed b).1, (closed b).2.1, apart_of_all (closed b).2.2⟩,
    fun h => absurd (h 0).1 (by decide +kernel), by decide +kernel, ?_⟩
  rintro q (h | h | ⟨e, h⟩)
  · rw [silent.1] at h
    cases h
  · rw [silent.2.1] at h
    cases h
  · have := silent.2.2 e
    rw [h] at this
    cases this

/-- The four lines of R142's table: the bank closed, another row in it, the row alone and the row shared. -/
theorem witness_StoreStepIsCounted_next :
    (asking.store.banks.get 0).openRow = none ∧ ((askingOpen 5).store.banks.get 0).openRow = some 5
      ∧ ((askingOpen 0).store.banks.get 0).openRow = some (0 / 512) ∧ ((askingOpen 0).store.banks.get 0).pendingClose = none
      ∧ decidedNow asking.toStation = some (.openRow 0 0) ∧ decidedNow (askingOpen 5).toStation = some (.close 0)
      ∧ decidedNow (askingOpen 0).toStation = some (.fetch 0 true) := by decide +kernel

/-- The pulse timer at 6 and at 7, and data due at the step. -/
theorem witness_StoreStepIsCounted_timer :
    let s := fun n => ({ station .serving with port := { (station .serving).port with timer := some n } } : State)
    let d : DueItem := { step := 40, engine := 0, count := 0, place := ⟨0, 0⟩, codes := List.replicate 16 7 }
    (s 6).port.timer = some 6 ∧ 6 + 1 < 8 ∧ (s 7).port.timer = some 7 ∧ 8 ≤ 7 + 1
      ∧ d ∈ ({ asking.store with due := [d] } : Store).due ∧ d.step ≤ asking.store.step := by decide

/-- A second playing channel whose engine wants another burst of the row. -/
def askingTwice : State :=
  let s := holding (askingOpen 0) 15 (.cycle { cycleRecord .playing 5 3 512 [] with engine := 1 })
  { s with toStation := setEngine 1 (Engine.fresh 15 ⟨8, 4⟩) s.toStation }

theorem witness_FetchReadsTheBurstAskedFor_shared :
    decidedNow askingTwice.toStation = some (.fetch 0 false)
      ∧ engineAt (wrapEngines (prepareStep askingTwice.toStation)) 0 = some engine := by decide +kernel

/-- The recorder with a whole burst for address 2048, bank 0 open on its row. -/
def writing : State :=
  let s := withStore (holding (station .serving) 22 .record) .ready
  { s with
    recorder := some (recording .capturing)
    store := { s.store with
      debt := -2, banks := s.store.banks.put 0 { Bank.fresh with openRow := some 4, lastOpen := some 30 } } }

theorem witness_PutWritesTheBurst :
    decidedNow writing.toStation = some (.put .recorder true)
      ∧ (prepareStep writing.toStation).recorder = some (recording .capturing)
      ∧ ((recording .capturing).ring.take 16).length = 16 := by decide +kernel

/-- The loader with a whole burst for address 0, bank 0 open on its row. -/
def loading : State :=
  let s := withStore (station .loading) .ready
  { s with
    loader := { Loader.fresh with phase := .audio, hand := List.replicate 16 9 }
    store := { s.store with
      debt := -2, banks := s.store.banks.put 0 { Bank.fresh with openRow := some 0, lastOpen := some 30 } } }

theorem witness_PutWritesTheBurst_loader :
    decidedNow loading.toStation = some (.put .loader true) ∧ loading.loader.hand.length = 16 := by decide +kernel

/-- The recorder's burst while capturing, with more to write of a commit, and the last one of a commit. -/
theorem witness_PutWritesTheBurst_commit :
    let w := fun n => ({ writing with recorder := some { recording .committing with ring := List.replicate n 7 } } : State)
    (recording .capturing).phase ≠ .committing ∧ decidedNow (w 32).toStation = some (.put .recorder true)
      ∧ decidedNow (w 16).toStation = some (.put .recorder true)
      ∧ ((findEntry (w 16).toStation 300).map fun e => e.alternate) = some (some 2048) := by decide +kernel

/-- The loader's burst with more of the entry to come, the last of an entry, and the last of all. -/
theorem witness_PutWritesTheBurst_audio :
    let l := fun e b row => ({ loading with
      loader := { loading.loader with audioEntry := e, audioBurst := b }
      store := { loading.store with
        banks := loading.store.banks.put 3 { Bank.fresh with openRow := some row, lastOpen := some 30 } } } : State)
    (tables.directory[0]?.map fun e => e.area.length) = some 4 ∧ loading.loader.audioBurst + 1 < 4
      ∧ decidedNow (l 0 3 0).toStation = some (.put .loader true) ∧ 4 ≤ 3 + 1 ∧ 0 + 1 < tables.directory.length
      ∧ (tables.directory[3]?.map fun e => e.area.length) = some 20
      ∧ decidedNow (l 3 19 8).toStation = some (.put .loader true) ∧ tables.directory.length ≤ 3 + 1 := by decide +kernel

/-- The recorder's PUT where an engine in a long gap wants the row too. -/
theorem witness_PutWritesTheBurst_shared :
    let s := holding writing 15 (.cycle { cycleRecord .gap 200 3 512 [] with engine := 1 })
    decidedNow (setEngine 1 (Engine.fresh 15 ⟨2056, 4⟩) s.toStation) = some (.put .recorder false) := by decide +kernel

/-- A renew with nothing asked for, a SETUP handed over, an entry and an exit. -/
theorem witness_RenewAndSetupChangeTheStore :
    let ready := withStore (station .serving) .ready
    decidedNow ready.toStation = some .renew
      ∧ decidedNow { (station .loading).toStation with
          store := { (station .loading).store with setup := some 2 } } = some (.setup 2)
      ∧ decidedNow { ready.toStation with store := { ready.store with work := .entry } } = some .selfRenewEntry
      ∧ decidedNow { ready.toStation with store := { ready.store with state := .selfRenew, exitSignal := true } } =
          some .selfRenewExit := by decide +kernel

theorem witness_StoreEventsComeDue :
    let s := withStore (station .serving) .renewing
    let t : State := { s with store := { s.store with
      banks := s.store.banks.put 7 { Bank.fresh with openRow := some 3, pendingClose := some 40 }, frames := 8 } }
    (t.store.banks.get 7).pendingClose = some 40 ∧ 40 ≤ t.store.step ∧ t.store.state = .renewing ∧ t.store.quiet = 0
      ∧ 8 ≤ t.store.frames ∧ t.store.work ≠ .entry := by decide

/-- A pending close in STOPPED, and a debt rise with a self-renew entry in hand. -/
theorem witness_StoreEventsComeDue_stopped :
    let s := withStore (station .halted) .stopped
    let t : State := { s with store := { s.store with
      banks := s.store.banks.put 7 { Bank.fresh with openRow := some 3, pendingClose := some 40 } } }
    let e := withStore (station .resting) .ready
    (t.store.banks.get 7).pendingClose = some 40 ∧ 40 ≤ t.store.step ∧ t.store.state = .stopped
      ∧ ({ e.store with frames := 8, work := .entry } : Store).work = .entry := by decide

/-- A fetch of the present binding and one of an earlier binding. -/
theorem witness_FetchedDataReachesItsBinding :
    let d : DueItem := { step := 40, engine := 0, count := 0, place := ⟨0, 0⟩, codes := List.replicate 16 7 }
    let s : State := { asking with store := { asking.store with due := [d] } }
    s.store.due = [d] ∧ d.step ≤ s.store.step ∧ engineAt s.toStation d.engine = some engine
      ∧ (s.engines.get d.engine).count = d.count
      ∧ (s.engines.get d.engine).count ≠ ({ d with count := 255 } : DueItem).count := by decide

/-- Two items due together, one of each binding, and one not yet due. -/
theorem witness_FetchedDataReachesItsBinding_several :
    let d : DueItem := { step := 40, engine := 0, count := 0, place := ⟨0, 0⟩, codes := List.replicate 16 7 }
    let s : State := { asking with store := { asking.store with
      due := [d, { d with count := 255 }, { d with step := 41 }] } }
    engineAt s.toStation 0 = some engine ∧ engineAt s.toStation 1 = none
      ∧ (s.store.due.filter fun x => decide (x.step ≤ s.store.step)) = [d, { d with count := 255 }]
      ∧ (received (s.engines.get 0).count 0 [d, { d with count := 255 }] engine).ring.length = 16 := by decide

theorem witness_CaptureStartsAndStops :
    let r : Recording := { recording .searching with loudRun := [1, 2, 3, 4] }
    let s : State := { station .serving with recorder := some r }
    let q : Recording := { recording .capturing with quietRun := 4000, placed := 32768 }
    s.recorder = some r ∧ r.phase = .searching ∧ r.loudRun.length = 4 ∧ q.phase = .capturing
      ∧ 16 * s.tables.endSilence ≤ q.quietRun ∧ 16 * s.tables.areaSize ≤ q.placed ∧ s.orders.state.answers = true
      ∧ s.orders.latch = none := by decide

/-- The first byte of a header, a second byte that makes another format id, and a station past LOADING. -/
theorem witness_FlashByteFeedsTheLoader :
    State.reset.orders.state = .loading ∧ State.reset.loader.phase = .header
      ∧ State.reset.loader.header.length + 1 < 22 ∧ State.reset.loader.header.length ≠ 1
      ∧ ({ Loader.fresh with header := [255] } : Loader).header = [255]
      ∧ 256 * (255 : Byte).toNat + (255 : Byte).toNat ≠ 19201 ∧ (station .serving).orders.state ≠ .loading := by decide

/-- The header of the test image: 1 plan, 1 directory record and no pair, class A, a latency of one store step. -/
def imageHeader : List Byte := [75, 1, 2, 2, 0, 3, 0, 100, 0, 250, 0, 0, 1, 1, 1, 1, 0, 1, 3, 0, 0, 0]

/-- The loader at the CRC of that image, its first byte read. -/
def checking : Loader :=
  { Loader.fresh with
    phase := .check, header := imageHeader, partBytes := [1], crc := 258
    plans := [{ id := 3, sets := [tone], steps := [{ sound := some 0, duration := none, cond := .always }], loop := 0 }]
    entries :=
      [{ id := 200, guarded := false, hasPair := false, hasShort := false, pairNumber := 0, shortId := 0, base := 0
         length := 4, gap := 3, window := 1000, trim := 0 }] }

/-- The last byte of the header, with counts within the capacity and above it; records one byte short of their end and
at it; and an audio byte with the burst in hand short of 16 codes. -/
theorem witness_FlashByteFeedsTheLoader_records :
    (imageHeader.take 21).length = 21 ∧ countsSound imageHeader ∧ ¬ countsSound (imageHeader.set 14 33)
      ∧ byteAt imageHeader 14 = 1 ∧ byteAt imageHeader 15 = 1
      ∧ 4 + 6 * byteAt [3, 1, 1, 0] 1 + 4 * byteAt [3, 1, 1, 0] 2 = 14
      ∧ checking.plans.length = byteAt imageHeader 14 ∧ checking.entries.length = byteAt imageHeader 15
      ∧ loading.loader.phase = .audio ∧ loading.orders.state = .loading
      ∧ loading.loader.audioEntry < loading.tables.directory.length ∧ 16 ≤ loading.loader.hand.length
      ∧ ({ loading.loader with hand := List.replicate 15 9 } : Loader).hand.length < 16 := by
  refine ⟨by decide, ⟨by decide, by decide, by decide, by decide⟩, fun h => absurd h.1 (by decide), ?_⟩
  decide

/-- A sound image whose CRC agrees with the second byte 2, and not with 3. -/
theorem witness_FlashByteFeedsTheLoader_check :
    checking.phase = .check ∧ checking.partBytes = [1] ∧ ImageSound checking
      ∧ 256 * (1 : Byte).toNat + (2 : Byte).toNat = checking.crc.toNat
      ∧ 256 * (1 : Byte).toNat + (3 : Byte).toNat ≠ checking.crc.toNat := by
  refine ⟨rfl, rfl, ?_, by decide, by decide⟩
  constructor <;> simp [checking, Loader.fresh, imageHeader, byteAt, PlanSound, checkedAreas, tone]

/-- A HALTED station with a command waiting, and the conditions of the three invariants in a serving station. -/
theorem witness_HaltedUntilPinReset :
    isHalted { station .halted with pending := [.storeStep] } ∧ isPinReset .storeStep = false := ⟨rfl, rfl⟩

theorem witness_StepKeepsTheContentsInForm :
    contentsOk { asking with
      store := { asking.store with memory := [(0, 7), (5, 1)] }, pending := [.storeStep] } := rfl

theorem witness_StepKeepsCallersWithin255 :
    callersOk (bidding (holding (station .serving) 14 (.cycle (cycleRecord .gap 2 250 5 []))) (offer .pending)) := by
  refine ⟨by decide, ?_⟩
  intro o h _
  have : o = offer .pending := by
    have h' : some (offer .pending) = some o := h
    exact (Option.some.inj h').symm
  subst this
  decide

theorem witness_StepKeepsHoldingToService :
    holdingOk (holding (station .draining) 14 (.cycle (cycleRecord .gap 2 250 5 []))) :=
  ⟨fun h => absurd rfl h, Or.inl ⟨Or.inr rfl, rfl⟩⟩

end Sys2Proof.Tests
end

/-! Open-drain arbitration (R7, R8, R14): the bit-by-bit reading of a position is the lowest word driven. -/
section
namespace Sys2Proof.Machine

/-- Nobody drives: every bit reads one (R7). -/
theorem laneBits_nil {w : Nat} : ∀ k, laneBits k ([] : List (BitVec w)) = 2 ^ k - 1
  | 0 => rfl
  | k + 1 => by
    have := Nat.two_pow_pos k
    simp [laneBits, laneBits_nil k, Nat.pow_succ]
    omega

/-- The low `k + 1` bits of a word, its bit `k` set apart. -/
theorem toNat_mod_two_pow_succ {w : Nat} (d : BitVec w) (k : Nat) :
    d.toNat % 2 ^ (k + 1) = (if d.getLsbD k then 2 ^ k else 0) + d.toNat % 2 ^ k := by
  rw [Nat.mod_pow_succ, ← BitVec.testBit_toNat, ← Nat.toNat_testBit]
  cases d.toNat.testBit k <;> simp [Nat.add_comm]

/-- The bits read are no more than those of any word driven. -/
theorem laneBits_le {w : Nat} (d : BitVec w) :
    ∀ (k : Nat) (ds : List (BitVec w)), d ∈ ds → laneBits k ds ≤ d.toNat % 2 ^ k
  | 0, _, _ => Nat.zero_le _
  | k + 1, ds, hd => by
    rw [toNat_mod_two_pow_succ, laneBits]
    have hlow := Nat.mod_lt d.toNat (Nat.two_pow_pos k)
    cases hall : ds.all fun x => x.getLsbD k with
    | true =>
      have hbit : d.getLsbD k = true := List.all_eq_true.mp hall d hd
      have := laneBits_le d k (ds.filter fun x => x.getLsbD k == true) (by simp [hd, hbit])
      simpa [hbit] using this
    | false =>
      cases hbit : d.getLsbD k with
      | false =>
        have := laneBits_le d k (ds.filter fun x => x.getLsbD k == false) (by simp [hd, hbit])
        simpa using this
      | true =>
        obtain ⟨e, he, hz⟩ := List.all_eq_false.mp hall
        have := laneBits_le e k (ds.filter fun x => x.getLsbD k == false) (by simpa [he] using hz)
        have := Nat.mod_lt e.toNat (Nat.two_pow_pos k)
        simp only [if_true, Bool.false_eq_true, if_false]
        omega

/-- The bits read are those of a word driven. -/
theorem laneBits_mem {w : Nat} :
    ∀ (k : Nat) (ds : List (BitVec w)), ds ≠ [] → ∃ d ∈ ds, laneBits k ds = d.toNat % 2 ^ k
  | 0, [], h => absurd rfl h
  | 0, d :: _, _ => ⟨d, by simp, by simp [laneBits, Nat.mod_one]⟩
  | k + 1, ds, h => by
    generalize hb : (ds.all fun x => x.getLsbD k) = bit
    have hne : (ds.filter fun x => x.getLsbD k == bit) ≠ [] := by
      cases bit with
      | true =>
        have hall : ∀ x ∈ ds, x.getLsbD k = true := List.all_eq_true.mp hb
        rwa [List.filter_eq_self.mpr (by simpa using hall)]
      | false =>
        obtain ⟨e, he, hz⟩ := List.all_eq_false.mp hb
        exact List.ne_nil_of_mem (a := e) (by simpa [he] using hz)
    obtain ⟨d, hd, hk⟩ := laneBits_mem k _ hne
    obtain ⟨hd, hbit⟩ := List.mem_filter.mp hd
    refine ⟨d, hd, ?_⟩
    rw [toNat_mod_two_pow_succ, laneBits, beq_iff_eq.mp hbit, hb, hk]

/-- The word read, as a number. -/
theorem toNat_laneWord {w : Nat} (ds : List (BitVec w)) : (laneWord ds).toNat = laneBits w ds := by
  have hlt : laneBits w ds < 2 ^ w := by
    rcases eq_or_ne ds [] with rfl | h
    · have := Nat.two_pow_pos w
      rw [laneBits_nil]; omega
    · obtain ⟨d, -, hd⟩ := laneBits_mem w ds h
      exact hd ▸ Nat.mod_lt _ (Nat.two_pow_pos w)
  rw [laneWord, BitVec.toNat_ofNat, Nat.mod_eq_of_lt hlt]

theorem laneWord_nil {w : Nat} : laneWord ([] : List (BitVec w)) = BitVec.allOnes w :=
  BitVec.eq_of_toNat_eq (by rw [toNat_laneWord, laneBits_nil, BitVec.toNat_allOnes])

theorem laneWord_le {w : Nat} (ds : List (BitVec w)) (d : BitVec w) (h : d ∈ ds) :
    (laneWord ds).toNat ≤ d.toNat := by
  have := laneBits_le d w ds h
  rwa [Nat.mod_eq_of_lt d.isLt, ← toNat_laneWord] at this

theorem laneWord_mem {w : Nat} (ds : List (BitVec w)) (h : ds ≠ []) : laneWord ds ∈ ds := by
  obtain ⟨d, hd, hk⟩ := laneBits_mem w ds h
  rw [Nat.mod_eq_of_lt d.isLt, ← toNat_laneWord] at hk
  exact BitVec.eq_of_toNat_eq hk ▸ hd

/-- A station wins a position exactly where no other drove a lower word (R8, R14). -/
theorem wins_iff {w : Nat} (own : BitVec w) (others : List (BitVec w)) :
    wins own others = true ↔ ∀ x ∈ others, own.toNat ≤ x.toNat := by
  have hread : laneWord (own :: others) = own ↔ ∀ x ∈ others, own.toNat ≤ x.toNat := by
    constructor
    · intro h x hx
      exact h ▸ laneWord_le (own :: others) x (List.mem_cons_of_mem _ hx)
    · intro h
      refine BitVec.eq_of_toNat_eq (Nat.le_antisymm (laneWord_le _ _ List.mem_cons_self) ?_)
      rcases List.mem_cons.mp (laneWord_mem (own :: others) (by simp)) with he | hm
      · exact Nat.le_of_eq (congrArg BitVec.toNat he.symm)
      · exact h _ hm
  simpa [wins] using hread

end Sys2Proof.Machine

namespace Sys2Proof.Proofs
open Sys2Proof Sys2Proof.Machine

/-- Settles O10: the bits read, most significant first, are those of the lowest word still driven. -/
theorem laneReadsTheLowest : Obligations.LaneReadsTheLowest :=
  ⟨fun _ => laneWord_nil,
    fun _ d ds => ⟨laneWord_mem (d :: ds) (by simp), fun x hx => laneWord_le (d :: ds) x hx⟩,
    fun _ own others => wins_iff own others⟩

end Sys2Proof.Proofs
end

/-! What each operation of the port and the resets can change, once for each, and how `exec` runs a meaning. -/
section
namespace Sys2Proof.Machine

/-! ### Running a meaning -/

@[simp] theorem State.run_eq (s : State) (f : Station → Station) :
    s.run f = .next { s with toStation := f s.toStation } := rfl

@[simp] theorem State.runChannel_val (s : State) (c : Channel) (f : Channel → Station → Station) :
    s.runChannel c.val f = .next { s with toStation := f c s.toStation } := by
  simp [State.runChannel, State.run]

/-! ### The store's frame count (R144) -/

theorem storeFrame_uncounted (s : Station) (h : s.store.state.counts = false) : storeFrame s = s := by
  simp [storeFrame, h]

theorem storeFrame_below (s : Station) (h : s.store.state.counts = true) (hn : s.store.frames < 7) :
    storeFrame s = { s with store := { s.store with frames := s.store.frames + 1 } } := by
  have : ¬ 8 ≤ s.store.frames + 1 := by omega
  simp [storeFrame, h, riseDue, this]

theorem storeFrame_eighth (s : Station) (h : s.store.state.counts = true) (hn : 7 ≤ s.store.frames) :
    storeFrame s = { s with store := { s.store with
      frames := 0, debt := s.store.debt + 1
      work := if 8 ≤ s.store.debt + 1 ∧ s.store.work ≠ .entry then .forced else s.store.work } } := by
  have : 8 ≤ s.store.frames + 1 := by omega
  simp [storeFrame, h, riseDue, this, riseDebt]

/-- A frame counted by the store touches the frame count, the debt and the renew work alone. -/
theorem storeFrame_changes (s : Station) :
    ∃ n d w, storeFrame s = { s with store := { s.store with frames := n, debt := d, work := w } } := by
  cases hc : s.store.state.counts with
  | false => exact ⟨s.store.frames, s.store.debt, s.store.work, storeFrame_uncounted s hc⟩
  | true =>
    rcases Nat.lt_or_ge s.store.frames 7 with hn | hn
    · exact ⟨_, s.store.debt, s.store.work, storeFrame_below s hc hn⟩
    · exact ⟨_, _, _, storeFrame_eighth s hc hn⟩

/-- A part of the station that does not look at the store is left by the store's frame count. -/
theorem storeFrame_leaves {β : Type} (part : Station → β) (hpart : ∀ (s : Station) t, part { s with store := t } = part s)
    (s : Station) : part (storeFrame s) = part s := by
  obtain ⟨n, d, w, h⟩ := storeFrame_changes s
  rw [h, hpart]

@[simp] theorem storeFrame_number (s : Station) : (storeFrame s).number = s.number :=
  storeFrame_leaves Station.number (fun _ _ => rfl) s
@[simp] theorem storeFrame_port (s : Station) : (storeFrame s).port = s.port :=
  storeFrame_leaves Station.port (fun _ _ => rfl) s
@[simp] theorem storeFrame_table (s : Station) : (storeFrame s).table = s.table :=
  storeFrame_leaves Station.table (fun _ _ => rfl) s
@[simp] theorem storeFrame_orders (s : Station) : (storeFrame s).orders = s.orders :=
  storeFrame_leaves Station.orders (fun _ _ => rfl) s
@[simp] theorem storeFrame_offer (s : Station) : (storeFrame s).offer = s.offer :=
  storeFrame_leaves Station.offer (fun _ _ => rfl) s
@[simp] theorem storeFrame_formed (s : Station) : (storeFrame s).formed = s.formed :=
  storeFrame_leaves Station.formed (fun _ _ => rfl) s
@[simp] theorem storeFrame_engines (s : Station) : (storeFrame s).engines = s.engines :=
  storeFrame_leaves Station.engines (fun _ _ => rfl) s
@[simp] theorem storeFrame_monitor (s : Station) : (storeFrame s).monitor = s.monitor :=
  storeFrame_leaves Station.monitor (fun _ _ => rfl) s
@[simp] theorem storeFrame_recorder (s : Station) : (storeFrame s).recorder = s.recorder :=
  storeFrame_leaves Station.recorder (fun _ _ => rfl) s
@[simp] theorem storeFrame_tables (s : Station) : (storeFrame s).tables = s.tables :=
  storeFrame_leaves Station.tables (fun _ _ => rfl) s
@[simp] theorem storeFrame_loader (s : Station) : (storeFrame s).loader = s.loader :=
  storeFrame_leaves Station.loader (fun _ _ => rfl) s
@[simp] theorem storeFrame_draw (s : Station) : (storeFrame s).draw = s.draw :=
  storeFrame_leaves Station.draw (fun _ _ => rfl) s

/-! ### Notices posted (R52) -/

/-- A part of the station that does not look at the order unit is left by a post. -/
theorem post_leaves {β : Type} (part : Station → β) (hpart : ∀ (s : Station) o, part { s with orders := o } = part s)
    (n : Notice) (s : Station) : part (post n s) = part s := by
  obtain ⟨o, h⟩ := post_eq n s
  rw [h, hpart]

/-- A part of the order unit other than the latch, the missed set and the driven mark is left by a post. -/
theorem post_leaves_orders {β : Type} (part : OrderUnit → β)
    (hpart : ∀ (o : OrderUnit) l m d, part { o with latch := l, missed := m, drivenStands := d } = part o)
    (n : Notice) (s : Station) : part (post n s).orders = part s.orders := by
  obtain ⟨l, m, d, h⟩ := post_changes n s
  rw [h, hpart]

theorem postAll_leaves {β : Type} (part : Station → β) (hpart : ∀ (s : Station) o, part { s with orders := o } = part s)
    (ns : List Notice) (s : Station) : part (postAll ns s) = part s := by
  obtain ⟨l, m, d, h⟩ := postAll_changes ns s
  rw [h, hpart]

theorem postAll_leaves_orders {β : Type} (part : OrderUnit → β)
    (hpart : ∀ (o : OrderUnit) l m d, part { o with latch := l, missed := m, drivenStands := d } = part o)
    (ns : List Notice) (s : Station) : part (postAll ns s).orders = part s.orders := by
  obtain ⟨l, m, d, h⟩ := postAll_changes ns s
  rw [h, hpart]

@[simp] theorem post_number (n : Notice) (s : Station) : (post n s).number = s.number :=
  post_leaves Station.number (fun _ _ => rfl) n s
@[simp] theorem post_port (n : Notice) (s : Station) : (post n s).port = s.port :=
  post_leaves Station.port (fun _ _ => rfl) n s
@[simp] theorem post_table (n : Notice) (s : Station) : (post n s).table = s.table :=
  post_leaves Station.table (fun _ _ => rfl) n s
@[simp] theorem post_offer (n : Notice) (s : Station) : (post n s).offer = s.offer :=
  post_leaves Station.offer (fun _ _ => rfl) n s
@[simp] theorem post_formed (n : Notice) (s : Station) : (post n s).formed = s.formed :=
  post_leaves Station.formed (fun _ _ => rfl) n s
@[simp] theorem post_engines (n : Notice) (s : Station) : (post n s).engines = s.engines :=
  post_leaves Station.engines (fun _ _ => rfl) n s
@[simp] theorem post_store (n : Notice) (s : Station) : (post n s).store = s.store :=
  post_leaves Station.store (fun _ _ => rfl) n s
@[simp] theorem post_monitor (n : Notice) (s : Station) : (post n s).monitor = s.monitor :=
  post_leaves Station.monitor (fun _ _ => rfl) n s
@[simp] theorem post_recorder (n : Notice) (s : Station) : (post n s).recorder = s.recorder :=
  post_leaves Station.recorder (fun _ _ => rfl) n s
@[simp] theorem post_tables (n : Notice) (s : Station) : (post n s).tables = s.tables :=
  post_leaves Station.tables (fun _ _ => rfl) n s
@[simp] theorem post_loader (n : Notice) (s : Station) : (post n s).loader = s.loader :=
  post_leaves Station.loader (fun _ _ => rfl) n s
@[simp] theorem post_draw (n : Notice) (s : Station) : (post n s).draw = s.draw :=
  post_leaves Station.draw (fun _ _ => rfl) n s
@[simp] theorem post_list (n : Notice) (s : Station) : (post n s).orders.list = s.orders.list :=
  post_leaves_orders OrderUnit.list (fun _ _ _ _ => rfl) n s
@[simp] theorem post_seen0 (n : Notice) (s : Station) : (post n s).orders.seen0 = s.orders.seen0 :=
  post_leaves_orders OrderUnit.seen0 (fun _ _ _ _ => rfl) n s
@[simp] theorem post_seen1 (n : Notice) (s : Station) : (post n s).orders.seen1 = s.orders.seen1 :=
  post_leaves_orders OrderUnit.seen1 (fun _ _ _ _ => rfl) n s
@[simp] theorem post_seen2 (n : Notice) (s : Station) : (post n s).orders.seen2 = s.orders.seen2 :=
  post_leaves_orders OrderUnit.seen2 (fun _ _ _ _ => rfl) n s
@[simp] theorem post_state (n : Notice) (s : Station) : (post n s).orders.state = s.orders.state :=
  post_leaves_orders OrderUnit.state (fun _ _ _ _ => rfl) n s
@[simp] theorem post_listening (n : Notice) (s : Station) : (post n s).orders.listening = s.orders.listening :=
  post_leaves_orders OrderUnit.listening (fun _ _ _ _ => rfl) n s
@[simp] theorem post_countdown (n : Notice) (s : Station) : (post n s).orders.countdown = s.orders.countdown :=
  post_leaves_orders OrderUnit.countdown (fun _ _ _ _ => rfl) n s
@[simp] theorem post_driving (n : Notice) (s : Station) : (post n s).orders.driving = s.orders.driving :=
  post_leaves_orders OrderUnit.driving (fun _ _ _ _ => rfl) n s
@[simp] theorem post_noticeUsed (n : Notice) (s : Station) : (post n s).orders.noticeUsed = s.orders.noticeUsed :=
  post_leaves_orders OrderUnit.noticeUsed (fun _ _ _ _ => rfl) n s

@[simp] theorem postAll_number (ns : List Notice) (s : Station) : (postAll ns s).number = s.number :=
  postAll_leaves Station.number (fun _ _ => rfl) ns s
@[simp] theorem postAll_port (ns : List Notice) (s : Station) : (postAll ns s).port = s.port :=
  postAll_leaves Station.port (fun _ _ => rfl) ns s
@[simp] theorem postAll_table (ns : List Notice) (s : Station) : (postAll ns s).table = s.table :=
  postAll_leaves Station.table (fun _ _ => rfl) ns s
@[simp] theorem postAll_offer (ns : List Notice) (s : Station) : (postAll ns s).offer = s.offer :=
  postAll_leaves Station.offer (fun _ _ => rfl) ns s
@[simp] theorem postAll_formed (ns : List Notice) (s : Station) : (postAll ns s).formed = s.formed :=
  postAll_leaves Station.formed (fun _ _ => rfl) ns s
@[simp] theorem postAll_engines (ns : List Notice) (s : Station) : (postAll ns s).engines = s.engines :=
  postAll_leaves Station.engines (fun _ _ => rfl) ns s
@[simp] theorem postAll_store (ns : List Notice) (s : Station) : (postAll ns s).store = s.store :=
  postAll_leaves Station.store (fun _ _ => rfl) ns s
@[simp] theorem postAll_monitor (ns : List Notice) (s : Station) : (postAll ns s).monitor = s.monitor :=
  postAll_leaves Station.monitor (fun _ _ => rfl) ns s
@[simp] theorem postAll_recorder (ns : List Notice) (s : Station) : (postAll ns s).recorder = s.recorder :=
  postAll_leaves Station.recorder (fun _ _ => rfl) ns s
@[simp] theorem postAll_tables (ns : List Notice) (s : Station) : (postAll ns s).tables = s.tables :=
  postAll_leaves Station.tables (fun _ _ => rfl) ns s
@[simp] theorem postAll_loader (ns : List Notice) (s : Station) : (postAll ns s).loader = s.loader :=
  postAll_leaves Station.loader (fun _ _ => rfl) ns s
@[simp] theorem postAll_draw (ns : List Notice) (s : Station) : (postAll ns s).draw = s.draw :=
  postAll_leaves Station.draw (fun _ _ => rfl) ns s
@[simp] theorem postAll_list (ns : List Notice) (s : Station) : (postAll ns s).orders.list = s.orders.list :=
  postAll_leaves_orders OrderUnit.list (fun _ _ _ _ => rfl) ns s
@[simp] theorem postAll_seen0 (ns : List Notice) (s : Station) : (postAll ns s).orders.seen0 = s.orders.seen0 :=
  postAll_leaves_orders OrderUnit.seen0 (fun _ _ _ _ => rfl) ns s
@[simp] theorem postAll_seen1 (ns : List Notice) (s : Station) : (postAll ns s).orders.seen1 = s.orders.seen1 :=
  postAll_leaves_orders OrderUnit.seen1 (fun _ _ _ _ => rfl) ns s
@[simp] theorem postAll_seen2 (ns : List Notice) (s : Station) : (postAll ns s).orders.seen2 = s.orders.seen2 :=
  postAll_leaves_orders OrderUnit.seen2 (fun _ _ _ _ => rfl) ns s
@[simp] theorem postAll_state (ns : List Notice) (s : Station) : (postAll ns s).orders.state = s.orders.state :=
  postAll_leaves_orders OrderUnit.state (fun _ _ _ _ => rfl) ns s
@[simp] theorem postAll_listening (ns : List Notice) (s : Station) : (postAll ns s).orders.listening = s.orders.listening :=
  postAll_leaves_orders OrderUnit.listening (fun _ _ _ _ => rfl) ns s
@[simp] theorem postAll_countdown (ns : List Notice) (s : Station) : (postAll ns s).orders.countdown = s.orders.countdown :=
  postAll_leaves_orders OrderUnit.countdown (fun _ _ _ _ => rfl) ns s
@[simp] theorem postAll_driving (ns : List Notice) (s : Station) : (postAll ns s).orders.driving = s.orders.driving :=
  postAll_leaves_orders OrderUnit.driving (fun _ _ _ _ => rfl) ns s
@[simp] theorem postAll_noticeUsed (ns : List Notice) (s : Station) : (postAll ns s).orders.noticeUsed = s.orders.noticeUsed :=
  postAll_leaves_orders OrderUnit.noticeUsed (fun _ _ _ _ => rfl) ns s

/-! ### The resets -/

/-- Outside HALTED the grade and the fall counter are cleared, and nothing else of the station changes (R157). -/
theorem clearGrade_changes (s : Station) :
    ∃ m, clearGrade s = { s with monitor := m } ∧ (s.orders.state ≠ .halted → m.grade = 0 ∧ m.fall = 0) := by
  by_cases h : s.orders.state = .halted
  · exact ⟨s.monitor, by simp [clearGrade, h], fun hn => absurd h hn⟩
  · exact ⟨{ s.monitor with grade := 0, fall := 0 }, by simp [clearGrade, h], fun _ => ⟨rfl, rfl⟩⟩

/-- R49's states, as one condition. -/
theorem StationState.isolate_eq (st : StationState) :
    st.isolate = if st = .serving ∨ st = .draining ∨ st = .listening then .isolated else st := by
  cases st <;> rfl

/-- R50's states, as one condition. -/
theorem OrderUnit.breakReset_state (o : OrderUnit) :
    o.breakReset.state =
      if o.state = .serving ∨ o.state = .draining ∨ o.state = .listening then .listening else o.state := by
  obtain ⟨_, _, _, _, st, _⟩ := o
  cases st <;> rfl

/-- A shelf reset empties the list, the latch and the missed set in every state (R36, R54). -/
theorem OrderUnit.breakReset_emptied (o : OrderUnit) :
    o.breakReset.list = [] ∧ o.breakReset.latch = none ∧ o.breakReset.missed = Tbl.fill 7 false := by
  obtain ⟨_, _, _, _, st, _⟩ := o
  cases st <;> exact ⟨rfl, rfl, rfl⟩

/-- The eighth store step since the last accepted pulse has passed (R5). -/
theorem pulseLossDue_some (s : Station) (n : Nat) (h : s.port.timer = some n) :
    pulseLossDue s = decide (8 ≤ n) := by
  simp [pulseLossDue, h]

theorem exec_pulseLoss (s : State) (n : Nat) (h : s.port.timer = some n) (hn : 8 ≤ n) :
    exec .pulseLoss s = .next { s with toStation := pulseLoss s.toStation } := by
  simp [exec, execPulseLoss, pulseLossDue_some s.toStation n h, hn]

theorem exec_shelfReset (s : State) (h : 16 ≤ s.port.breakCount) :
    exec .shelfReset s = .next { s with toStation := shelfReset s.toStation } := by
  simp [exec, execShelfReset, breakDue, h]

end Sys2Proof.Machine

namespace Sys2Proof.Proofs
open Sys2Proof Sys2Proof.Machine

/-- Settles O5, block by block, with and without the halt countdown. -/
theorem pulseLossIsolates : Obligations.PulseLossIsolates := by
  intro s n ht hn
  refine ⟨_, exec_pulseLoss s n ht hn, rfl, ?_⟩
  obtain ⟨m, hm, hgrade⟩ := clearGrade_changes s.toStation
  cases hc : s.orders.countdown with
  | none =>
    simpa [pulseLoss, hm, hc, startLocalFrame, dropAll, Port.lose, ChannelTable.lose, OrderUnit.lose,
      OrderUnit.clearNotices, StationState.isolate_eq] using hgrade
  | some k =>
    simpa [pulseLoss, hm, hc, startLocalFrame, dropAll, Port.lose, ChannelTable.lose, OrderUnit.lose,
      OrderUnit.clearNotices, enterHalted, OrderUnit.halt] using hgrade

/-- Settles O6, block by block, with and without the halt countdown. -/
theorem shelfResetDropsEverything : Obligations.ShelfResetDropsEverything := by
  intro s hb
  refine ⟨_, exec_shelfReset s hb, rfl, ?_⟩
  obtain ⟨m, hm, hgrade⟩ := clearGrade_changes s.toStation
  obtain ⟨hlist, hlatch, hmissed⟩ := s.orders.breakReset_emptied
  cases hc : s.orders.countdown with
  | none =>
    simpa [shelfReset, hm, hc, dropAll, OrderUnit.breakReset_state, hlist, hlatch, hmissed] using hgrade
  | some k =>
    simpa [shelfReset, hm, hc, dropAll, enterHalted, OrderUnit.halt, OrderUnit.clearNotices] using hgrade

/-- Settles O7, by the store's frame count: below the eighth frame, at the eighth, and in the states that do not
count. -/
theorem localFrameBegins : Obligations.LocalFrameBegins := by
  intro s ht hl
  have hrun : exec .localFrame s = .next { s with toStation := startLocalFrame s.toStation } := by
    simp [exec, execLocalFrame, localFrameDue, pulsePresent, ht, hl]
  rw [hrun, startLocalFrame]
  refine ⟨fun hc hn => ?_, fun hc hn => ?_, fun hc => ?_⟩
  · simp [storeFrame_below, hc, hn]
  · simp [storeFrame_eighth, hc, hn]
  · simp [storeFrame_uncounted, hc]

end Sys2Proof.Proofs
end

/-! The owner, sample, order and reply positions: when a position comes round, and what it makes of the station. -/
section
namespace Sys2Proof.Machine

/-! ### Owner positions (R8, R9, R17, R19) -/

theorem pulsePresent_of_timer (s : Station) (h : s.port.timer ≠ none) : pulsePresent s = true :=
  Option.isSome_iff_ne_none.mpr h

theorem exec_ownerPosition (c : Channel) (others : List OwnerCode) (s : State) (ht : s.port.timer ≠ none)
    (hn : s.port.ownerNext ≤ c.val) :
    exec (.ownerPosition c.val others) s = .next { s with toStation := ownerPosition c others s.toStation } := by
  simp [exec, execOwnerPosition, ownerOpen, pulsePresent_of_timer s.toStation ht, hn]

theorem Holding.isHeld_iff (h : Holding) : h.isHeld = true ↔ h ≠ .none := by
  cases h <;> simp [Holding.isHeld]

theorem ownerPosition_notDriven (c : Channel) (others : List OwnerCode) (s : Station)
    (hheld : s.table.holding.get c = .none) (hclaim : s.table.claimed ≠ some c) (hread : laneWord others ≠ s.number) :
    ownerPosition c others s = readOwner c none (laneWord others) s := by
  simp [ownerPosition, drivesOwner, Holding.isHeld, hheld, hclaim, hread]

theorem ownerPosition_heldWon (c : Channel) (others : List OwnerCode) (s : Station)
    (hheld : s.table.holding.get c ≠ .none) (hclaim : s.table.claimed ≠ some c) (hstop : s.table.stopped = false)
    (hwon : wins s.number others = true) :
    ownerPosition c others s = readOwner c (some s.number) s.number s := by
  have hread : laneWord (s.number :: others) = s.number := by simpa [wins] using hwon
  simp [ownerPosition, drivesOwner, (Holding.isHeld_iff _).mpr hheld, hclaim, hstop, hread]

/-! ### Notices taken (R52) -/

theorem take_latches (n : Notice) (o : OrderUnit) (h : o.latch = none) : o.take n = o.latchNotice n := by
  simp [OrderUnit.take, h]

theorem take_replaces (n k : Notice) (o : OrderUnit) (h : o.latch = some k) (hle : n.kind.code ≤ k.kind.code) :
    o.take n = (o.miss k.kind).latchNotice n := by
  simp [OrderUnit.take, h, hle]

theorem take_misses (n k : Notice) (o : OrderUnit) (h : o.latch = some k) (hlt : k.kind.code < n.kind.code) :
    o.take n = o.miss n.kind := by
  simp [OrderUnit.take, h, Fin.not_le.mpr hlt]

/-- A kind marked in the missed set. -/
theorem missed_put (m : Tbl 7 Bool) (k i : Fin 7) : (m.put k true).get i = (m.get i || i == k) := by
  by_cases h : k = i
  · simp [h]
  · simp [h, Ne.symm h]

/-- The order unit takes a notice by the table of R52. -/
theorem take_taken (n : Notice) (o : OrderUnit) : Taken n o (o.take n) where
  rest := by
    obtain ⟨l, m, d, h⟩ := take_eq o n
    rw [h]
  empty := fun h => by rw [take_latches n o h]; exact ⟨rfl, rfl⟩
  replaces := fun k h hle => by
    rw [take_replaces n k o h hle]
    exact ⟨rfl, missed_put o.missed k.kind.code⟩
  missed := fun k h hlt => by
    rw [take_misses n k o h hlt]
    exact ⟨h, missed_put o.missed n.kind.code⟩

theorem post_answered (n : Notice) (s : Station) (h : s.orders.state.answers = true) :
    post n s = { s with orders := s.orders.take n } := by simp [post, h]

/-! ### Channels surrendered (R29) -/

/-- A TONE or CYCLE channel dropped leaves every block but the table, the formed codes and the engines, and of the table
everything but its own channel. -/
theorem dropChannel_sounding (c : Channel) (s : Station)
    (h : (s.table.holding.get c).isTone = true ∨ (s.table.holding.get c).isCycle = true) :
    ∃ f e, dropChannel c s = { s with table := s.table.hold c .none, formed := f, engines := e } := by
  cases hc : s.table.holding.get c with
  | tone r => exact ⟨s.formed.put c none, s.engines, by simp [dropChannel, tearDown, hc]⟩
  | cycle r => exact ⟨s.formed.put c none, _, by simp [dropChannel, tearDown, hc, freeEngineSlot]; rfl⟩
  | none => simp [hc, Holding.isTone, Holding.isCycle] at h
  | pool => simp [hc, Holding.isTone, Holding.isCycle] at h
  | record => simp [hc, Holding.isTone, Holding.isCycle] at h

/-- The engine of a CYCLE channel dropped is free (R28). -/
theorem dropChannel_freesEngine (c : Channel) (s : Station) (r : CycleRecord)
    (h : s.table.holding.get c = .cycle r) : engineAt (dropChannel c s) r.engine = none := by
  simp [dropChannel, tearDown, h, freeEngineSlot, engineAt]

theorem inService_of_sounding (h : Holding) (hs : h.isTone = true ∨ h.isCycle = true) : h.inService = true := by
  cases h <;> simp_all [Holding.isTone, Holding.isCycle, Holding.inService]

/-- A TONE or CYCLE channel surrendered is dropped, its engine free, and LOST is taken where the station answers
(R28, R29, R52). -/
theorem surrender_changes (c : Channel) (s : Station)
    (h : (s.table.holding.get c).isTone = true ∨ (s.table.holding.get c).isCycle = true) :
    ∃ f e, surrender c s = { s with
        table := s.table.hold c .none, formed := f, engines := e
        orders := if s.orders.state.answers then s.orders.take { kind := .lost, channel := some c, detail := 15 }
          else s.orders }
      ∧ ∀ r, s.table.holding.get c = .cycle r → (e.get r.engine).bound = none := by
  obtain ⟨f, e, hdrop⟩ := dropChannel_sounding c s h
  refine ⟨f, e, ?_, fun r hr => ?_⟩
  · simp only [surrender, loseChannel, inService_of_sounding _ h, hdrop, post, if_true]
    split <;> rfl
  · have hfree := dropChannel_freesEngine c s r hr
    rwa [hdrop] at hfree

theorem sounds_isTone_or_isCycle (h : Holding) (hs : h.sounds = true) : h.isTone = true ∨ h.isCycle = true := by
  cases h <;> simp_all [Holding.sounds, Holding.isTone, Holding.isCycle]

theorem exec_contentionSurrender (c : Channel) (s : State) (hn : 4 ≤ s.table.contention.get c)
    (h : (s.table.holding.get c).isTone = true ∨ (s.table.holding.get c).isCycle = true) :
    exec (.contentionSurrender c.val) s = .next { s with toStation := surrender c s.toStation } := by
  have hdue : contentionDue c s.toStation = true := by simpa [contentionDue, hn] using h
  simp [exec, execContentionSurrender, hdue]

/-! ### Sample positions (R10 to R12) -/

theorem exec_samplePosition (c : Channel) (others : Code) (s : State) (ht : s.port.timer ≠ none)
    (hn : s.port.sampleNext ≤ c.val) (ho : c.val < s.port.ownerNext) :
    exec (.samplePosition c.val others) s = .next { s with toStation := samplePosition c others s.toStation } := by
  simp [exec, execSamplePosition, sampleOpen, pulsePresent_of_timer s.toStation ht, hn, ho]

/-- The port after the sample position of `c`, in which the station drove `driven`. -/
def passSample (c : Channel) (driven : Option Code) (s : Station) : Station :=
  { s with port := { s.port with sampleNext := c.val + 1, sampleOut := s.port.sampleOut.put c driven } }

/-- A channel that the station does not sound passes, but for the recorder's input (R10, R12). -/
theorem samplePosition_notSounded (c : Channel) (others : Code) (s : Station)
    (h : (s.table.holding.get c).sounds = false) :
    samplePosition c others s = whenDue (hears s c) (recorderSample others) (passSample c none s) := by
  simp [samplePosition, drivenCode, h, passSample]

/-- A channel that the station sounds, and does not record from: a contention event where the code reads back
differently (R10, R11). -/
theorem samplePosition_sounded (c : Channel) (k others : Code) (s : Station)
    (h : (s.table.holding.get c).sounds = true) (hheld : ownerHeld s c = true) (hstop : s.table.stopped = false)
    (hk : s.formed.get c = some k) (hhear : hears s c = false) :
    samplePosition c others s = whenDue (k != k &&& others) (contentionEvent c) (passSample c (some k) s) := by
  have : (some k != some (k &&& others)) = (k != k &&& others) := by
    simp [bne]
  simp [samplePosition, drivenCode, h, hheld, hstop, hk, hhear, passSample, this]

/-- Fewer than three events have come before: the event is counted and nothing else changes (R29). -/
theorem contentionEvent_counted (c : Channel) (s : Station) (h : s.table.contention.get c < 3) :
    contentionEvent c s =
      { s with table := { s.table with contention := s.table.contention.put c (s.table.contention.get c + 1) } } := by
  have : ¬ 3 ≤ s.table.contention.get c := by omega
  simp [contentionEvent, contentionDue, this]

/-- The fourth event surrenders the channel (R29). -/
theorem contentionEvent_fourth (c : Channel) (s : Station) (h : s.table.contention.get c = 3)
    (hs : (s.table.holding.get c).isTone = true ∨ (s.table.holding.get c).isCycle = true) :
    contentionEvent c s = surrender c { s with table := { s.table with contention := s.table.contention.put c 4 } } := by
  have hs' : ((s.table.holding.get c).isTone || (s.table.holding.get c).isCycle) = true := by simpa using hs
  simp [contentionEvent, contentionDue, h, hs']

/-! ### The recorder's input (R117, R163, R164, R166) -/

theorem loud_eq (t : Nat) (k : Code) : loud t k = decide (t ≤ magnitude k) := rfl

/-- R164's placing of a code, with the full ring as R164 words it. -/
theorem Recording.capture_eq (r : Recording) (threshold : Nat) (k : Code) :
    r.capture (loud threshold k) k = { r with
      ring := if r.ring.length < 32 then r.ring ++ [k] else r.ring
      placed := if r.ring.length < 32 then r.placed + 1 else r.placed
      damaged := if r.ring.length < 32 then r.damaged else true
      lastLoud := if threshold ≤ magnitude k ∧ r.ring.length < 32 then r.placed / 16 else r.lastLoud
      quietRun :=
        if magnitude k < threshold then r.quietRun + 1
        else if r.ring.length < 32 then 0 else r.quietRun } := by
  by_cases hfull : r.ring.length < 32 <;> by_cases hloud : threshold ≤ magnitude k
  · simp [Recording.capture, loud_eq, hfull, hloud, Nat.not_le.mpr hfull, Nat.not_lt.mpr hloud]
  · simp [Recording.capture, loud_eq, hfull, hloud, Nat.not_le.mpr hfull, Nat.not_le.mp hloud]
  · simp [Recording.capture, loud_eq, hfull, hloud, Nat.not_lt.mp hfull, Nat.not_lt.mpr hloud]
  · simp [Recording.capture, loud_eq, hfull, hloud, Nat.not_lt.mp hfull, Nat.not_le.mp hloud]

/-- A capture that is stopped is HELD, so that no other stop is due (R166). -/
theorem fullAreaDue_stopCapture (s : Station) (r : Recording) (h : s.recorder = some r) :
    fullAreaDue (stopCapture s) = false := by
  simp [stopCapture, h, fullAreaDue, Recording.stop]

theorem recorderSample_searching (k : Code) (s : Station) (r : Recording) (h : s.recorder = some r)
    (hp : r.phase = .searching) (hs : r.started = true) :
    recorderSample k s =
      whenDue (decide (4 ≤ (r.hear (loud s.tables.threshold k) k).loudRun.length)) startCapture
        { s with recorder := some (r.hear (loud s.tables.threshold k) k) } := by
  simp [recorderSample, h, hp, hs, captureDue, Recording.hear]

theorem recorderSample_capturing (k : Code) (s : Station) (r q : Recording) (h : s.recorder = some r)
    (hp : r.phase = .capturing) (hq : r.capture (loud s.tables.threshold k) k = q) :
    recorderSample k s =
      if 16 * s.tables.endSilence ≤ q.quietRun then stopCapture { s with recorder := some q }
      else whenDue (decide (16 * s.tables.areaSize ≤ q.placed)) stopCapture { s with recorder := some q } := by
  have hphase : q.phase = .capturing := by rw [← hq]; exact hp
  by_cases he : 16 * s.tables.endSilence ≤ q.quietRun
  · simp [recorderSample, h, hp, hq, endSilenceDue, hphase, he,
      fullAreaDue_stopCapture { s with recorder := some q } q rfl]
  · simp [recorderSample, h, hp, hq, endSilenceDue, hphase, he, fullAreaDue]

/-! ### The order position (R13, R16, R35) -/

theorem exec_orderPosition (word : Word) (s : State) (ht : s.port.timer ≠ none) (ho : s.port.orderSeen = false) :
    exec (.orderPosition word) s = .next { s with toStation := orderPosition word s.toStation } := by
  simp [exec, execOrderPosition, orderOpen, pulsePresent_of_timer s.toStation ht, ho]

/-- A word other than all zeros clears the break count (R16). -/
theorem countBreak_nonzero (word : Word) (s : Station) (h : word ≠ 0) :
    countBreak word s = { s with port := { s.port with breakCount := 0 } } := by
  rw [countBreak, if_neg h]

/-- A word of all zeros raises the break count (R16). -/
theorem countBreak_zero (s : Station) :
    countBreak 0 s = { s with port := { s.port with breakCount := s.port.breakCount + 1 } } := rfl

/-- No reset comes of a word other than all zeros (R16). -/
theorem orderPosition_nonzero (word : Word) (s : Station) (h : word ≠ 0) :
    orderPosition word s =
      { s with port := { s.port with orderSeen := true, breakCount := 0 }, orders := s.orders.receive word } := by
  simp [orderPosition, countBreak_nonzero word s h, breakDue]

theorem receive_order (o : OrderUnit) (word : Word) (x : Order) (hx : Machine.orderOf word = some x)
    (ha : o.state.answers = true) (hc : o.countdown = none) :
    o.receive word = { o with seen0 := seenOf word, list := o.list ++ [{ order := x, age := 0 }] } := by
  simp [OrderUnit.receive, hx, ha, hc]

theorem receive_untaken (o : OrderUnit) (word : Word)
    (h : Machine.orderOf word = none ∨ o.state.answers = false ∨ o.countdown ≠ none) :
    o.receive word = { o with seen0 := seenOf word } := by
  cases hx : Machine.orderOf word with
  | none => simp [OrderUnit.receive, hx]
  | some x =>
    have : (o.state.answers && o.countdown.isNone) = false := by
      rcases h with h | h | h
      · simp [hx] at h
      · simp [h]
      · simp [Option.isNone_eq_false_iff.mpr (Option.isSome_iff_ne_none.mpr h)]
    simp [OrderUnit.receive, hx, this]

theorem receive_zero (o : OrderUnit) : o.receive 0 = { o with seen0 := .noticeMark } :=
  receive_untaken o 0 (.inl rfl)

/-- A word of all zeros below the sixteenth raises the break count (R16). -/
theorem orderPosition_zero (s : Station) (h : s.port.breakCount + 1 < 16) :
    orderPosition 0 s = { s with
      port := { s.port with orderSeen := true, breakCount := s.port.breakCount + 1 }
      orders := { s.orders with seen0 := .noticeMark } } := by
  have h' : ¬ 16 ≤ s.port.breakCount + 1 := by omega
  simp only [orderPosition, countBreak_zero, breakDue, receive_zero, h', decide_false, whenDue_false]

/-- The sixteenth word of all zeros in a row is the shelf reset, before the word is noted (R16). -/
theorem orderPosition_break (s : Station) (h : 16 ≤ s.port.breakCount + 1) :
    orderPosition 0 s =
      (fun v : Station => { v with port := { v.port with orderSeen := true }, orders := v.orders.receive 0 })
        (shelfReset { s with port := { s.port with breakCount := s.port.breakCount + 1 } }) := by
  simp only [orderPosition, countBreak_zero, breakDue, h, decide_true, whenDue_true]

theorem shelfReset_breakCount (s : Station) : (shelfReset s).port.breakCount = 0 := by
  cases hc : s.orders.countdown with
  | none => simp [shelfReset, hc]
  | some k => simp [shelfReset, hc]

/-! ### The fields of an order word (R178) -/

/-- The kind code of a word is one of sixteen: six kinds of order, and the idle ones. -/
theorem kind_cases (w : Word) : bits w 31 28 = 1 ∨ bits w 31 28 = 2 ∨ bits w 31 28 = 3 ∨ bits w 31 28 = 4
    ∨ bits w 31 28 = 5 ∨ bits w 31 28 = 6 ∨ isIdle w := by
  unfold isIdle
  omega

theorem orderBodyOf_idle (w : Word) (h : isIdle w) : orderBodyOf w = none := by
  have hk : field w 28 4 = bits w 31 28 := field_eq_bits w 28 3
  unfold isIdle at h
  unfold orderBodyOf
  rw [hk]
  split
  iterate 6 next => omega
  next => rfl

/-- The action code of a SERVICE is laid out as section 13.1 has it. -/
theorem serviceActionOf_eq (k : Nat) : serviceActionOf k =
    match k with
      | 0 => .drain
      | 1 => .force
      | 2 => .back
      | _ => .none := rfl

/-- The body of an order, kind by kind, at the bits of section 13.1. -/
theorem orderBodyOf_layout (w : Word) :
    (bits w 31 28 = 1 → orderBodyOf w =
      some (.join (bits w 17 9) (if bits w 8 8 = 1 then .any else .start) (decide (bits w 7 7 = 1))))
    ∧ (bits w 31 28 = 2 → orderBodyOf w = some (.leave (bits w 17 12)))
    ∧ (bits w 31 28 = 3 → orderBodyOf w = some (.probe (bits w 17 14)))
    ∧ (bits w 31 28 = 4 → orderBodyOf w = some (.record (bits w 17 14) (bits w 13 5)))
    ∧ (bits w 31 28 = 5 → orderBodyOf w =
      some (.finish (bits w 17 14) (if bits w 13 13 = 1 then .discard else .commit)))
    ∧ (bits w 31 28 = 6 → orderBodyOf w = some (.service (bits w 17 14) (serviceActionOf (bits w 13 12)))) := by
  have hk : field w 28 4 = bits w 31 28 := field_eq_bits w 28 3
  have h99 : field w 9 9 = bits w 17 9 := field_eq_bits w 9 8
  have h81 : field w 8 1 = bits w 8 8 := field_eq_bits w 8 0
  have h71 : field w 7 1 = bits w 7 7 := field_eq_bits w 7 0
  have h126 : field w 12 6 = bits w 17 12 := field_eq_bits w 12 5
  have h144 : field w 14 4 = bits w 17 14 := field_eq_bits w 14 3
  have h59 : field w 5 9 = bits w 13 5 := field_eq_bits w 5 8
  have h131 : field w 13 1 = bits w 13 13 := field_eq_bits w 13 0
  have h122 : field w 12 2 = bits w 13 12 := field_eq_bits w 12 1
  refine ⟨fun h => ?_, fun h => ?_, fun h => ?_, fun h => ?_, fun h => ?_, fun h => ?_⟩
  · simp [orderBodyOf, hk, h, h99, h81, h71, modeOf, BEq.beq]
  · simp [orderBodyOf, hk, h, h126]
  · simp [orderBodyOf, hk, h, h144]
  · simp [orderBodyOf, hk, h, h144, h59]
  · simp [orderBodyOf, hk, h, h144, h131]
  · simp [orderBodyOf, hk, h, h144, h122]

/-- An order of body `b` has the layout of section 13.1 where its body has it. -/
theorem orderLayout_of_body (w : Word) (b : OrderBody) (hb : orderBodyOf w = some b) :
    OrderLayout w { cls := field w 26 2, tag := w.extractLsb' 18 8, body := b } := by
  obtain ⟨hjoin, hleave, hprobe, hrecord, hfinish, hservice⟩ := orderBodyOf_layout w
  have body_eq : ∀ x, orderBodyOf w = some x → b = x := fun x hx => Option.some.inj (hb.symm.trans hx)
  exact
    { cls := field_eq_bits w 26 1
      tag := field_eq_bits w 18 7
      join := fun h => body_eq _ (hjoin h)
      leave := fun h => body_eq _ (hleave h)
      probe := fun h => body_eq _ (hprobe h)
      record := fun h => body_eq _ (hrecord h)
      finish := fun h => body_eq _ (hfinish h)
      service := fun h => body_eq _ (hservice h) }

/-- A word that is not idle carries an order, which the recent-order memory marks as a notice position for a LEAVE
alone (R15, R178). -/
theorem orderBodyOf_order (w : Word) (h : ¬ isIdle w) :
    ∃ b, orderBodyOf w = some b ∧ seenOf w = if bits w 31 28 = 2 then .noticeMark else .order := by
  obtain ⟨hjoin, hleave, hprobe, hrecord, hfinish, hservice⟩ := orderBodyOf_layout w
  rcases kind_cases w with hk | hk | hk | hk | hk | hk | hk
  · exact ⟨_, hjoin hk, by simp [seenOf, hjoin hk, hk]⟩
  · exact ⟨_, hleave hk, by simp [seenOf, hleave hk, hk]⟩
  · exact ⟨_, hprobe hk, by simp [seenOf, hprobe hk, hk]⟩
  · exact ⟨_, hrecord hk, by simp [seenOf, hrecord hk, hk]⟩
  · exact ⟨_, hfinish hk, by simp [seenOf, hfinish hk, hk]⟩
  · exact ⟨_, hservice hk, by simp [seenOf, hservice hk, hk]⟩
  · exact absurd hk h

/-! ### The notice word (R179) -/

theorem kindNumber_eq (k : NoticeKind) : kindNumber k = k.code.val := by cases k <;> rfl

theorem noticeWord_toNat (n : Notice) (station : BitVec 4) :
    (noticeWord n station).toNat =
      67108864 * kindNumber n.kind + 262144 * station.toNat + 4096 * n.channelField + n.detail % 4096 := by
  have hkind : kindNumber n.kind < 7 := kindNumber_eq n.kind ▸ n.kind.code.isLt
  have hchannel : n.channelField < 64 := by
    unfold Notice.channelField
    split <;> omega
  rw [kindNumber_eq] at *
  simp only [noticeWord, toNat_append_eq_add, BitVec.toNat_ofNat]
  omega

/-- A notice word has its fields at the bits of section 13.2 (R179). -/
theorem noticeWord_hasFields (n : Notice) (station : BitVec 4) :
    hasFields (noticeWord n station) 0 (16 * kindNumber n.kind) station n.channelField (n.detail % 4096) := by
  have hkind : kindNumber n.kind < 7 := kindNumber_eq n.kind ▸ n.kind.code.isLt
  have hchannel : n.channelField < 64 := by
    unfold Notice.channelField
    split <;> omega
  have hstation := station.isLt
  simp only [hasFields, bits, noticeWord_toNat]
  omega

/-! ### The notice position (R53) -/

/-- Outside the halt countdown the outcome settles the latch, and halts nothing (R53). -/
theorem settleNotice_running (n : Notice) (won : Bool) (s : Station) (h : s.orders.countdown = none) :
    settleNotice n won s = { s with orders := { s.orders with
      driving := none, drivenStands := false
      latch := if won && s.orders.drivenStands then none else s.orders.latch } } := by
  simp [settleNotice, h]

/-- Outside the halt countdown the latch's notice is driven (R53). -/
theorem driveNotice_running (n : Notice) (s : Station) (h : s.orders.countdown = none) (hl : s.orders.latch = some n) :
    driveNotice s = { s with
      port := { s.port with replyOut := some (noticeWord n s.number) }
      orders := { s.orders with noticeUsed := true, driving := some n, drivenStands := true } } := by
  simp [driveNotice, noticeToDrive, h, hl, driveReply]

end Sys2Proof.Machine

namespace Sys2Proof.Proofs
open Sys2Proof Sys2Proof.Machine

/-- Settles O11: a position not driven and one held and won are read into the view alone. -/
theorem ownerPositionFillsTheView : Obligations.OwnerPositionFillsTheView := by
  intro c others s ht hn hclaim
  refine ⟨fun hheld hread => ?_, fun hheld hstop hwon => ?_⟩
  · rw [exec_ownerPosition c others s ht hn, ownerPosition_notDriven c others s.toStation hheld hclaim hread]
    rfl
  · rw [exec_ownerPosition c others s ht hn, ownerPosition_heldWon c others s.toStation hheld hclaim hstop hwon]
    rfl

/-- Settles O16: a surrender drops the channel and takes LOST, and a sample position makes at most one event, which the
count before it tells to be the fourth or not. -/
theorem contentionIsCounted : Obligations.ContentionIsCounted := by
  refine ⟨fun c s hn hs ha => ?_, fun c k others s ht hnext hstop hs hheld hk hhear _ => ?_⟩
  · have hexec := exec_contentionSurrender c s hn hs
    obtain ⟨f, e, heq, -⟩ := surrender_changes c s.toStation hs
    rw [heq, if_pos ha] at hexec
    refine ⟨_, hexec, by simp [ChannelTable.hold], rfl, take_taken _ _, fun d hd => ?_, rfl, rfl, rfl⟩
    simp [ChannelTable.hold, Ne.symm hd]
  · have howner : c.val < s.port.ownerNext := by
      simp only [ownerHeld, Bool.and_eq_true, decide_eq_true_eq] at hheld
      exact hheld.1.1
    have hexec := exec_samplePosition c others s ht hnext howner
    rw [samplePosition_sounded c k others s.toStation hs hheld hstop hk hhear] at hexec
    by_cases hread : k &&& others = k
    · refine ⟨_, hexec, ?_⟩
      simp [hread, passSample]
    · have hdiff : (k != k &&& others) = true := by simpa using Ne.symm hread
      rw [hdiff, whenDue_true] at hexec
      rcases Nat.lt_or_ge (s.table.contention.get c) 3 with hlow | hhigh
      · rw [contentionEvent_counted c (passSample c (some k) s.toStation) hlow] at hexec
        refine ⟨_, hexec, ?_⟩
        have : s.table.contention.get c ≠ 3 := by omega
        simp [passSample, hread, this]
      · have hthree : s.table.contention.get c = 3 := by omega
        rw [contentionEvent_fourth c (passSample c (some k) s.toStation) hthree (sounds_isTone_or_isCycle _ hs)] at hexec
        obtain ⟨f, e, heq, hfree⟩ := surrender_changes c
          { passSample c (some k) s.toStation with
            table := { s.table with contention := s.table.contention.put c 4 } } (sounds_isTone_or_isCycle _ hs)
        rw [show (passSample c (some k) s.toStation).table = s.table from rfl, heq] at hexec
        refine ⟨_, hexec, by simp [passSample], fun h => absurd h hread, fun _ h => by omega, fun _ _ => ?_⟩
        refine ⟨by simp [ChannelTable.hold], hfree, fun ha hl => ?_⟩
        simp [passSample, ha, take_latches, hl, OrderUnit.latchNotice]

/-- Settles O18: a word other than all zeros and one of all zeros, below and at the sixteenth, and the layout of the
word by its kind. -/
theorem orderPositionTakesTheWord : Obligations.OrderPositionTakesTheWord := by
  refine ⟨fun word s ht ho hw => ⟨fun o horder ha hc => ?_, fun hnot => ?_⟩, fun s ht ho => ⟨fun hb => ?_, fun hb => ?_⟩,
    fun w => ⟨fun hidle => ?_, fun hidle => ?_⟩⟩
  · rw [exec_orderPosition word s ht ho, orderPosition_nonzero word s.toStation hw,
      receive_order s.orders word o horder ha hc]
  · rw [exec_orderPosition word s ht ho, orderPosition_nonzero word s.toStation hw,
      receive_untaken s.orders word hnot]
  · rw [exec_orderPosition 0 s ht ho, orderPosition_zero s.toStation hb]
  · refine ⟨_, exec_shelfReset _ hb, shelfReset_breakCount _, ?_⟩
    rw [exec_orderPosition 0 s ht ho, orderPosition_break s.toStation hb]
    simp only [receive_zero]
  · simp [Machine.orderOf, seenOf, orderBodyOf_idle w hidle]
  · obtain ⟨body, hbody, hseen⟩ := orderBodyOf_order w hidle
    exact ⟨_, by rw [Machine.orderOf, hbody]; rfl, orderLayout_of_body w body hbody, hseen⟩

/-- Settles O37: the layout of the notice word, the outcome handed back, and the whole position as the driving and its
outcome. -/
theorem noticePositionDrivesTheLatch : Obligations.NoticePositionDrivesTheLatch := by
  refine ⟨noticeWord_hasFields, fun s n word others hd hw hc => ?_, fun s n others ht ho hseen hused hc hl => ?_⟩
  · simp [exec, execNoticePosition, noticePosition, noticeOutcome, hd, hw, settleNotice_running, hc]
  · have hopen : noticeOpen s.toStation = true := by
      simp [noticeOpen, replyOpen, pulsePresent_of_timer s.toStation ht, ho, hseen, hused]
    simp [exec, execNoticePosition, noticePosition, hopen, driveNotice_running n s.toStation hc hl, noticeOutcome,
      settleNotice_running, hc, hl]

/-- Settles O39, by what the channel offered is held for. -/
theorem existingOfferIsBound : Obligations.ExistingOfferIsBound := by
  intro s o word others ho hw
  refine ⟨fun hwon hnew => ?_, fun hlost => ?_⟩
  · have hexec : exec (.bindExisting others) s =
        .next { s with toStation := bindToChannel o (dropOffer s.toStation) } := by
      simp [exec, execBindExisting, bindExisting, offerOutcome, ho, hw, hwon, hnew]
    rw [hexec]
    refine ⟨fun r hr => ?_, fun r hr hway => ?_, fun r hr hway => ?_, fun hr => ?_⟩
    · simp [bindToChannel, hr, setHolding, ToneRecord.join, dropOffer]
    · simp [bindToChannel, hr, setHolding, CycleRecord.join, hway, dropOffer]
    · simp [bindToChannel, hr, setHolding, CycleRecord.join, hway, dropOffer]
    · simp [bindToChannel, hr, dropOffer]
  · simp [exec, execOfferLost, loseOffer, offerOutcome, ho, hw, hlost, dropOffer]

/-- Settles O15, by the recorder's phase, and in CAPTURING by the stop that the placed code brings. -/
theorem undrivenSamplePositionPasses : Obligations.UndrivenSamplePositionPasses := by
  intro c others s v ht hn ho hs hv
  have hexec : exec (.samplePosition c.val others) s =
      .next { v with toStation := whenDue (hears s.toStation c) (recorderSample others) v.toStation } := by
    rw [exec_samplePosition c others s ht hn ho, samplePosition_notSounded c others s.toStation hs, hv]
    rfl
  refine ⟨fun hdeaf => by rw [hexec, hdeaf, hv]; rfl, fun r hr hin => ?_⟩
  have hhear : hears s.toStation c = true := by simp [hears, hr, hin]
  have hrv : v.recorder = some r := by rw [hv]; exact hr
  have htables : v.tables = s.tables := by rw [hv]
  rw [hexec, hhear, whenDue_true]
  refine ⟨fun hp hst => ?_, fun hp => ?_, fun hp hst hq => ?_, fun hp hst hl hlen => ?_, fun hp hst hl hlen => ?_,
    fun hp q hq => ?_⟩
  · simp [recorderSample, hrv, hp, hst]
  · simp [recorderSample, hrv, hp]
  · have hloud : loud v.tables.threshold others = false := by simpa [loud, htables] using hq
    simp [recorderSample_searching others v.toStation r hrv hp hst, hloud, Recording.hear]
  · have hloud : loud v.tables.threshold others = true := by simpa [loud, htables] using hl
    have : ¬ 3 ≤ r.loudRun.length := by omega
    simp [recorderSample_searching others v.toStation r hrv hp hst, hloud, Recording.hear, this]
  · have hloud : loud v.tables.threshold others = true := by simpa [loud, htables] using hl
    have hsample := recorderSample_searching others v.toStation r hrv hp hst
    simp only [hloud, Recording.hear, if_true, List.length_append, hlen, List.length_singleton] at hsample
    rw [hsample]
    refine ⟨?_, _, _, rfl, rfl, rfl, rfl, ?_⟩
    · simp [exec, execCaptureStart, captureDue, hp, hlen]
    · simp [Recording.beginCapture, hlen]
  · have hcapture : r.capture (loud v.tables.threshold others) others = q := by
      rw [hq, htables, Recording.capture_eq]
    have hphase : q.phase = .capturing := by rw [hq]; exact hp
    rw [recorderSample_capturing others v.toStation r q hrv hp hcapture, htables]
    refine ⟨fun he ha => ?_, fun he => ?_, fun he ha => ?_⟩
    · simp [Nat.not_le.mpr he, Nat.not_le.mpr ha]
    · simp [he, exec, execEndSilenceStop, endSilenceDue, hphase]
    · simp [Nat.not_le.mpr he, ha, exec, execFullAreaStop, fullAreaDue, hphase]

end Sys2Proof.Proofs
end

/-! A store step taken whole: what its preparation, its decision and its close change (R4, R136, R143). -/
section
namespace Sys2Proof.Machine

/-! ### What comes about before the command -/

/-- Data handed over touches the engines alone (R128). -/
theorem deliver_changes (d : DueItem) (s : Station) : ∃ e, deliver d s = { s with engines := e } := by
  unfold deliver
  split
  · exact ⟨s.engines, rfl⟩
  · split
    · exact ⟨_, rfl⟩
    · exact ⟨s.engines, rfl⟩

/-- Due data touches the engines, the due list and the data lines alone, and the data lines show it (R141, R152). -/
theorem arrivals_changes (s : Station) : ∃ e, arrivals s = { s with
    engines := e
    store := { s.store with
      due := s.store.due.filter fun d => !decide (d.step ≤ s.store.step)
      lines := { s.store.lines with
        read := s.store.lines.read ++ (s.store.due.filter fun d => decide (d.step ≤ s.store.step)).map DueItem.codes } } } := by
  obtain ⟨e, h⟩ : ∃ e, (s.store.due.filter fun d => decide (d.step ≤ s.store.step)).foldl (fun s d => deliver d s) s
      = { s with engines := e } := by
    refine foldl_keeps (fun t => ∃ e, t = { s with engines := e }) _ _ ?_ s ⟨s.engines, rfl⟩
    rintro t d ⟨e, rfl⟩
    exact deliver_changes d _
  exact ⟨e, by simp only [arrivals, h]⟩

/-- Pending closes touch the bank records alone (R137). -/
theorem pendingCloses_changes (s : Station) :
    ∃ b, pendingCloses s = { s with store := { s.store with banks := b } } := by
  refine foldl_keeps (fun t => ∃ b, t = { s with store := { s.store with banks := b } }) _ _ ?_ s ⟨s.store.banks, rfl⟩
  rintro t b ⟨bs, rfl⟩
  refine whenDue_keeps (fun t => ∃ b, t = { s with store := { s.store with banks := b } }) _ _ _ ?_ ⟨bs, rfl⟩
  exact fun _ _ => ⟨_, rfl⟩

/-- The end of a load with no audio touches the order unit and the loader alone (R176). -/
theorem loaderReady_changes (s : Station) : ∃ o l, loaderReady s = { s with orders := o, loader := l } := by
  unfold loaderReady
  split
  · exact ⟨_, _, rfl⟩
  · exact ⟨s.orders, s.loader, rfl⟩

/-- Aiming afresh touches the engines alone (R125). -/
theorem reaimEngines_changes (s : Station) : ∃ e, eachEngine reaimEngine s = { s with engines := e } := by
  refine eachEngine_keeps (fun t => ∃ e, t = { s with engines := e }) _ ?_ s ⟨s.engines, rfl⟩
  rintro e t ⟨es, rfl⟩
  unfold reaimEngine
  split <;> exact ⟨_, rfl⟩

theorem wrapEngine_changes (e : Fin 16) (s : Station) : ∃ es, wrapEngine e s = { s with engines := es } := by
  unfold wrapEngine
  split
  · exact ⟨s.engines, rfl⟩
  · split
    · exact ⟨s.engines, rfl⟩
    · split <;> exact ⟨_, rfl⟩

/-- The wraps touch the engines alone (R126). -/
theorem wrapEngines_changes (s : Station) : ∃ e, wrapEngines s = { s with engines := e } := by
  refine eachEngine_keeps (fun t => ∃ e, t = { s with engines := e }) _ ?_ s ⟨s.engines, rfl⟩
  rintro e t ⟨es, rfl⟩
  exact wrapEngine_changes e _

theorem wrapEngines_leaves {β : Type} (part : Station → β) (hpart : ∀ (s : Station) e, part { s with engines := e } = part s)
    (s : Station) : part (wrapEngines s) = part s := by
  obtain ⟨e, h⟩ := wrapEngines_changes s
  rw [h, hpart]

@[simp] theorem wrapEngines_port (s : Station) : (wrapEngines s).port = s.port :=
  wrapEngines_leaves Station.port (fun _ _ => rfl) s
@[simp] theorem wrapEngines_store (s : Station) : (wrapEngines s).store = s.store :=
  wrapEngines_leaves Station.store (fun _ _ => rfl) s

/-- A local frame that begins touches its own steps and the store's frame count alone (R6, R144). -/
theorem localFrame_changes (s : Station) : ∃ n f d w, whenDue (localFrameDue s) startLocalFrame s = { s with
    port := { s.port with localSteps := n }, store := { s.store with frames := f, debt := d, work := w } } := by
  cases localFrameDue s with
  | false => exact ⟨s.port.localSteps, s.store.frames, s.store.debt, s.store.work, rfl⟩
  | true =>
    obtain ⟨f, d, w, h⟩ := storeFrame_changes { s with port := { s.port with localSteps := 0 } }
    exact ⟨0, f, d, w, h⟩

/-- What falls due at a step, after its local frame, changes the engines, and by the end of a load the order unit and
the loader; of the store, the due list, the data lines and the banks (R125, R137, R141, R176). -/
theorem fallDue_changes (s : Station) : ∃ o l e b, eachEngine reaimEngine (loaderReady (pendingCloses (arrivals s))) =
    { s with
      orders := o, loader := l, engines := e
      store := { s.store with
        banks := b
        due := s.store.due.filter fun d => !decide (d.step ≤ s.store.step)
        lines := { s.store.lines with
          read := s.store.lines.read
            ++ (s.store.due.filter fun d => decide (d.step ≤ s.store.step)).map DueItem.codes } } } := by
  obtain ⟨e, harrive⟩ := arrivals_changes s
  obtain ⟨b, hclose⟩ := pendingCloses_changes (arrivals s)
  obtain ⟨o, l, hload⟩ := loaderReady_changes (pendingCloses (arrivals s))
  obtain ⟨e', haim⟩ := reaimEngines_changes (loaderReady (pendingCloses (arrivals s)))
  exact ⟨o, l, e', b, by rw [haim, hload, hclose, harrive]⟩

/-- What the preparation of a store step changes: the local frame's steps, the engines, and by the end of a load the
order unit and the loader; of the store, not the step number, nor the command the step has carried; and the data lines
show what falls due (R6, R125, R137, R141, R152, R176). -/
theorem prepareStep_changes (s : Station) : ∃ n o l e st, prepareStep s = { s with
      port := { s.port with localSteps := n }, orders := o, loader := l, engines := e, store := st }
    ∧ st.step = s.store.step ∧ st.issued = s.store.issued
    ∧ ∀ d ∈ s.store.due, d.step ≤ s.store.step → d.codes ∈ st.lines.read := by
  obtain ⟨n, f, d, w, hframe⟩ := localFrame_changes s
  obtain ⟨o, l, e, b, hdue⟩ := fallDue_changes { s with
    port := { s.port with localSteps := n }, store := { s.store with frames := f, debt := d, work := w } }
  refine ⟨n, o, l, e, _, (congrArg (fun t => eachEngine reaimEngine (loaderReady (pendingCloses (arrivals t)))) hframe).trans
    hdue, rfl, rfl, fun x hx hstep => ?_⟩
  refine List.mem_append_right _ (List.mem_map_of_mem (List.mem_filter.mpr ⟨hx, ?_⟩))
  simpa using hstep

/-! ### The command -/

theorem recorderPut_changes (s : Station) :
    ∃ r t, recorderPut s = { s with recorder := r, tables := t } := by
  unfold recorderPut settleCommit
  split
  · exact ⟨s.recorder, s.tables, rfl⟩
  · simp only []
    split
    · exact ⟨_, _, rfl⟩
    · exact ⟨_, s.tables, rfl⟩

theorem loaderPut_changes (s : Station) : ∃ o l, loaderPut s = { s with orders := o, loader := l } := by
  unfold loaderPut
  split
  · exact ⟨s.orders, s.loader, rfl⟩
  · simp only []
    split
    · exact ⟨s.orders, _, rfl⟩
    · exact ⟨_, _, rfl⟩

/-- A FETCH touches the store and the engines alone; of the store, neither the step number, nor the work, nor the
lines (R126, R137). -/
theorem doFetch_changes (e : Fin 16) (close : Bool) (s : Station) : ∃ es st,
    doFetch e close s = { s with engines := es, store := st }
    ∧ st.step = s.store.step ∧ st.lines = s.store.lines ∧ st.work = s.store.work := by
  cases he : engineAt s e with
  | none => exact ⟨s.engines, s.store, by simp [doFetch, he], rfl, rfl, rfl⟩
  | some eng =>
    have hfetch : doFetch e close s = wrapEngine e (setEngine e eng.issue { s with store :=
        { s.store.markFetch (bankOf eng.address) close with due := s.store.due ++ [dueItem s e eng] } }) := by
      simp [doFetch, he]
    obtain ⟨es, hwrap⟩ := wrapEngine_changes e (setEngine e eng.issue { s with store :=
      { s.store.markFetch (bankOf eng.address) close with due := s.store.due ++ [dueItem s e eng] } })
    exact ⟨es, _, hfetch.trans hwrap, rfl, rfl, rfl⟩

/-- A PUT touches the store, the recorder and the tables, or the order unit and the loader; of the store, neither the
step number, nor the work, nor the bursts read (R137, R168, R176). -/
theorem doPut_changes (who : Requester) (close : Bool) (s : Station) : ∃ o l r t st,
    doPut who close s = { s with orders := o, loader := l, recorder := r, tables := t, store := st }
    ∧ st.step = s.store.step ∧ st.lines.read = s.store.lines.read ∧ st.work = s.store.work := by
  cases who with
  | engine e => exact ⟨s.orders, s.loader, s.recorder, s.tables, s.store, rfl, rfl, rfl, rfl⟩
  | recorder =>
    cases hr : s.recorder with
    | none =>
      have hput : doPut .recorder close s = s := by simp [doPut, hr]
      exact ⟨s.orders, s.loader, s.recorder, s.tables, s.store, hput, rfl, rfl, rfl⟩
    | some x =>
      have hput : doPut .recorder close s =
          recorderPut (writeBurst (recordAddress s x) close (x.ring.take 16) s) := by simp [doPut, hr]
      obtain ⟨r, t, h⟩ := recorderPut_changes (writeBurst (recordAddress s x) close (x.ring.take 16) s)
      exact ⟨s.orders, s.loader, r, t, _, hput.trans h, rfl, rfl, rfl⟩
  | loader =>
    obtain ⟨o, l, h⟩ := loaderPut_changes (writeBurst (loaderAddress s) close s.loader.hand s)
    exact ⟨o, l, s.recorder, s.tables, _, h, rfl, rfl, rfl⟩

/-- A command carried out touches the store, the engines, and by a PUT the recorder, the tables, the order unit and the
loader; of the store, neither the step number nor the bursts read, and the work by a renew command alone (R137, R145,
R149). -/
theorem performCmd_changes (cmd : StoreCmd) (s : Station) : ∃ o l r t e st, performCmd cmd s = { s with
      orders := o, loader := l, recorder := r, tables := t, engines := e, store := st }
    ∧ st.step = s.store.step ∧ st.lines.read = s.store.lines.read
    ∧ st.work = if cmd = .renew ∨ cmd = .selfRenewEntry then .none else s.store.work := by
  have store_alone : ∀ st, performCmd cmd s = { s with store := st } → performCmd cmd s = { s with
      orders := s.orders, loader := s.loader, recorder := s.recorder, tables := s.tables, engines := s.engines,
      store := st } := fun st h => h
  cases cmd with
  | openRow b row => exact ⟨_, _, _, _, _, _, store_alone _ rfl, rfl, rfl, by simp [Store.doOpen, Store.setBank]⟩
  | close b => exact ⟨_, _, _, _, _, _, store_alone _ rfl, rfl, rfl, by simp [Store.doClose, Store.setBank]⟩
  | renew => exact ⟨_, _, _, _, _, _, store_alone _ rfl, rfl, rfl, by simp [Store.doRenew]⟩
  | setup n => exact ⟨_, _, _, _, _, _, store_alone _ rfl, rfl, rfl, by simp [Store.doSetup]⟩
  | selfRenewEntry => exact ⟨_, _, _, _, _, _, store_alone _ rfl, rfl, rfl, by simp [Store.doEntry]⟩
  | selfRenewExit => exact ⟨_, _, _, _, _, _, store_alone _ rfl, rfl, rfl, by simp [Store.doExit]⟩
  | fetch e close =>
    obtain ⟨es, st, h, hstep, hlines, hwork⟩ := doFetch_changes e close s
    exact ⟨s.orders, s.loader, s.recorder, s.tables, es, st, h, hstep, congrArg StepLines.read hlines, by simpa using hwork⟩
  | put who close =>
    obtain ⟨o, l, r, t, st, h, hstep, hread, hwork⟩ := doPut_changes who close s
    exact ⟨o, l, r, t, s.engines, st, h, hstep, hread, by simpa using hwork⟩

/-- The renew work a decision leaves: none after a RENEW or a self-renew entry (R145, R149). -/
def Decision.workAfter (d : Decision) : RenewWork :=
  if d.cmd = some .renew ∨ d.cmd = some .selfRenewEntry then .none else d.work

/-- What a decision carried out changes, and what the store's lines show of it (R137, R152). -/
theorem performDecision_changes (d : Decision) (s : Station) : ∃ o l r t e st, performDecision d s = { s with
      orders := o, loader := l, recorder := r, tables := t, engines := e, store := st }
    ∧ st.step = s.store.step ∧ st.lines.read = s.store.lines.read ∧ st.work = d.workAfter
    ∧ ∀ cmd, d.cmd = some cmd → st.lines.command = some (busCommand s cmd) := by
  cases hcmd : d.cmd with
  | none =>
    refine ⟨s.orders, s.loader, s.recorder, s.tables, s.engines, { s.store with work := d.work }, ?_, rfl, rfl, ?_, ?_⟩
    · simp [performDecision, hcmd]
    · simp [Decision.workAfter, hcmd]
    · intro cmd h; cases h
  | some cmd =>
    obtain ⟨o, l, r, t, e, st, h, hstep, hread, hwork⟩ :=
      performCmd_changes cmd { s with store := { s.store with work := d.work } }
    refine ⟨o, l, r, t, e, st.carry cmd (busCommand s cmd), ?_, hstep, hread, ?_, ?_⟩
    · simp only [performDecision, hcmd, h]
      cases cmd <;> rfl
    · simpa [Store.carry, Decision.workAfter, hcmd] using hwork
    · rintro x ⟨⟩; rfl

/-- The last PUT of a commit makes the same of every block but the engines, whatever the engines hold (R168). -/
theorem performDecision_swap (d : Decision) (s : Station) (es : Tbl 16 EngineSlot) (cl : Bool)
    (h : d.cmd = some (.put .recorder cl)) :
    performDecision d { s with engines := es } = { performDecision d s with engines := es } := by
  have hput : ∀ t : Station, doPut .recorder cl { t with engines := es } = { doPut .recorder cl t with engines := es } := by
    intro t
    cases hr : t.recorder with
    | none => simp [doPut, hr]
    | some r =>
      simp only [doPut, hr, recorderPut, writeBurst, settleCommit]
      split <;> rfl
  simp only [performDecision, h, performCmd]
  have := hput { s with store := { s.store with work := d.work } }
  simp only [] at this
  rw [this]
  rfl

end Sys2Proof.Machine
end

/-! A store step taken whole, closed and counted (R4, R5, R136), and a step at which nothing is due. -/
section
namespace Sys2Proof.Machine

/-- A decision that makes the swap is the recorder's PUT (R168). -/
theorem makesSwap_put (d : Decision) (s : Station) (h : makesSwap d s = true) :
    ∃ cl, d.cmd = some (.put .recorder cl) := by
  unfold makesSwap at h
  split at h
  · exact ⟨_, ‹_›⟩
  · cases h

/-- The two orders of a swap and a wrap at one step: the decision carried out on the wrapped station, or the recorder's
PUT before the wraps (R168, log entry 5). -/
theorem decideAndCarry_cases (s p : Station) (hp : p = wrapEngines s) :
    (∃ n, decideAndCarry s = { performDecision (decideStep p) p with draw := n })
    ∨ ∃ cl, (decideStep p).cmd = some (.put .recorder cl)
      ∧ decideAndCarry s = { wrapEngines (performDecision (decideStep p) s) with draw := s.draw + 1 } := by
  have hcarry : decideAndCarry s =
      if (makesSwap (decideStep p) p && decide (p.engines ≠ s.engines)) = true then
        { (if Config.swapFirst s.draw then wrapEngines (performDecision (decideStep p) s)
            else performDecision (decideStep p) p) with draw := s.draw + 1 }
      else performDecision (decideStep p) p := by rw [hp]; rfl
  by_cases hswap : (makesSwap (decideStep p) p && decide (p.engines ≠ s.engines)) = true
  · rw [if_pos hswap] at hcarry
    cases hfirst : Config.swapFirst s.draw with
    | false => exact .inl ⟨s.draw + 1, by rw [hcarry, hfirst]; rfl⟩
    | true =>
      obtain ⟨cl, hput⟩ := makesSwap_put _ _ (Bool.and_eq_true _ _ ▸ hswap).1
      exact .inr ⟨cl, hput, by rw [hcarry, hfirst]; rfl⟩
  · exact .inl ⟨(performDecision (decideStep p) p).draw, by rw [hcarry, if_neg hswap]⟩

/-- But for the engines and the draw, the decision is carried out as on the wrapped station. -/
theorem decideAndCarry_part {β : Type} (part : Station → β) (hengines : ∀ (s : Station) e, part { s with engines := e } = part s)
    (hdraw : ∀ (s : Station) n, part { s with draw := n } = part s) (s p : Station) (hp : p = wrapEngines s) :
    part (decideAndCarry s) = part (performDecision (decideStep p) p) := by
  obtain ⟨n, h⟩ | ⟨cl, hput, h⟩ := decideAndCarry_cases s p hp
  · rw [h, hdraw]
  · obtain ⟨es, hwrap⟩ := wrapEngines_changes s
    have hsame := performDecision_swap (decideStep p) s es cl hput
    rw [← hwrap, ← hp] at hsame
    rw [h, hdraw, wrapEngines_leaves part hengines, hsame]
    exact (hengines _ es).symm

/-! ### The close of a step (R4, R5, R136, R138) -/

/-- The store closed at the end of a step: the step number raised, the step's lines kept, the carried command gone. -/
theorem closeStore_changes (s : Station) : ∃ q st, closeStore s = { s with store := { s.store with
    quiet := q, state := st, step := s.store.step + 1, issued := none, lines := StepLines.idle,
    shown := s.store.lines } } := by
  cases hi : s.store.issued.isNone with
  | false =>
    exact ⟨s.store.quiet, s.store.state, by simp [closeStore, hi]⟩
  | true =>
    cases hq : quietEndDue { s with store := { s.store with
        quiet := if s.store.state.isQuiet then s.store.quiet - 1 else s.store.quiet } } with
    | false => exact ⟨_, s.store.state, by simp [closeStore, hi, hq]; rfl⟩
    | true => exact ⟨_, .ready, by simp [closeStore, hi, hq, endQuiet]; rfl⟩

/-- The clock moves the pulse timer and the local frame's steps alone (R5, R6). -/
theorem Port.tick_changes (p : Port) : ∃ n, p.tick = { p with localSteps := n, timer := p.timer.map (· + 1) } := by
  cases h : p.timer with
  | none => exact ⟨p.localSteps + 1, by simp [Port.tick, h]⟩
  | some k => exact ⟨p.localSteps, by simp [Port.tick, h]⟩

/-- The step as its close finds it: what fell due, and the one command of the step (R143). -/
def stepCarried (s : Station) : Station :=
  if (prepareStep s).store.issued.isSome then wrapEngines (prepareStep s) else decideAndCarry (prepareStep s)

theorem wholeStep_eq (s : Station) : wholeStep s = closeStep (stepCarried s) := rfl

theorem prepareStep_issued (s : Station) : (prepareStep s).store.issued = s.store.issued := by
  obtain ⟨n, o, l, e, st, h, -, hissued, -⟩ := prepareStep_changes s
  rw [h]; exact hissued

/-- A step that has carried its command makes its wraps and no more. -/
theorem stepCarried_issued (s : Station) (h : s.store.issued ≠ none) : stepCarried s = wrapEngines (prepareStep s) := by
  rw [stepCarried, prepareStep_issued, if_pos (Option.isSome_iff_ne_none.mpr h)]

theorem stepCarried_free (s : Station) (h : s.store.issued = none) : stepCarried s = decideAndCarry (prepareStep s) :=
  if_neg (by simp [prepareStep_issued, h])

theorem decidedNow_free (s : Station) (h : s.store.issued = none) :
    decidedNow s = (decideStep (wrapEngines (prepareStep s))).cmd := by
  simp [decidedNow, h]

/-- A part of the station that neither what falls due nor the command of a step touches. -/
def OutsideStep {β : Type} (part : Station → β) : Prop :=
  (∀ (s : Station) n o l r t e st, part { s with
    port := { s.port with localSteps := n }, orders := o, loader := l, recorder := r, tables := t, engines := e
    store := st } = part s)
  ∧ ∀ (s : Station) n, part { s with draw := n } = part s

theorem OutsideStep.prepareStep {β : Type} {part : Station → β} (h : OutsideStep part) (s : Station) :
    part (prepareStep s) = part s := by
  obtain ⟨n, o, l, e, st, hprep, -⟩ := prepareStep_changes s
  exact (congrArg part hprep).trans (h.1 s n o l s.recorder s.tables e st)

theorem OutsideStep.engines {β : Type} {part : Station → β} (h : OutsideStep part) (s : Station)
    (e : Tbl 16 EngineSlot) : part { s with engines := e } = part s :=
  h.1 s s.port.localSteps s.orders s.loader s.recorder s.tables e s.store

theorem OutsideStep.performDecision {β : Type} {part : Station → β} (h : OutsideStep part) (d : Decision) (s : Station) :
    part (performDecision d s) = part s := by
  obtain ⟨o, l, r, t, e, st, hdec, -⟩ := performDecision_changes d s
  exact (congrArg part hdec).trans (h.1 s s.port.localSteps o l r t e st)

/-- The step up to its close leaves what lies outside it. -/
theorem OutsideStep.stepCarried {β : Type} {part : Station → β} (h : OutsideStep part) (s : Station) :
    part (stepCarried s) = part s := by
  have hwrapped : part (wrapEngines (Machine.prepareStep s)) = part s :=
    (wrapEngines_leaves part h.engines _).trans (h.prepareStep s)
  by_cases hi : s.store.issued = none
  · rw [stepCarried_free s hi, decideAndCarry_part part h.engines h.2 _ _ rfl, h.performDecision, hwrapped]
  · rw [stepCarried_issued s hi, hwrapped]

/-- What the store's lines carry by the end of a step: the bursts that fell due, and the command decided (R141, R152). -/
theorem stepCarried_store (s : Station) :
    (stepCarried s).store.step = s.store.step
    ∧ (∀ d ∈ s.store.due, d.step ≤ s.store.step → d.codes ∈ (stepCarried s).store.lines.read)
    ∧ (∀ cmd, decidedNow s = some cmd →
        (stepCarried s).store.lines.command = some (busCommand (wrapEngines (prepareStep s)) cmd))
    ∧ (s.store.issued = none →
        (stepCarried s).store.work = (decideStep (wrapEngines (prepareStep s))).workAfter) := by
  obtain ⟨n, o, l, e, st, hprep, hstep, -, hread⟩ := prepareStep_changes s
  have hpstore : (prepareStep s).store = st := by rw [hprep]
  by_cases hi : s.store.issued = none
  · obtain ⟨o, l, r, t, e, st', hdec, hstep', hread', hwork, hcmd⟩ :=
      performDecision_changes (decideStep (wrapEngines (prepareStep s))) (wrapEngines (prepareStep s))
    have hstore : (stepCarried s).store = st' := by
      rw [stepCarried_free s hi, decideAndCarry_part Station.store (fun _ _ => rfl) (fun _ _ => rfl) _ _ rfl, hdec]
    rw [wrapEngines_store, hpstore] at hstep' hread'
    rw [hstore, hstep', hread', hwork, decidedNow_free s hi]
    exact ⟨hstep, hread, hcmd, fun _ => rfl⟩
  · rw [stepCarried_issued s hi, wrapEngines_store, hpstore]
    refine ⟨hstep, hread, fun cmd h => ?_, fun h => absurd h hi⟩
    simp [decidedNow, Option.isSome_iff_ne_none.mpr hi] at h

/-- The close of a step changes the port's clock and the store alone. -/
theorem closeStep_part {β : Type} (part : Station → β)
    (hpart : ∀ (s : Station) p st, part { s with port := p, store := st } = part s) (s : Station) :
    part (closeStep s) = part s := by
  obtain ⟨q, st, h⟩ := closeStore_changes s
  rw [closeStep, h]
  exact hpart s _ _

theorem closeStep_port (s : Station) : (closeStep s).port = s.port.tick := by
  obtain ⟨q, st, h⟩ := closeStore_changes s
  rw [closeStep, h]

theorem closeStep_store (s : Station) :
    (closeStep s).store.step = s.store.step + 1 ∧ (closeStep s).store.issued = none
    ∧ (closeStep s).store.shown = s.store.lines ∧ (closeStep s).store.work = s.store.work := by
  obtain ⟨q, st, h⟩ := closeStore_changes s
  simp only [closeStep, h, and_self]

theorem wholeStep_number (s : Station) : (wholeStep s).number = s.number := by
  rw [wholeStep_eq, closeStep_part Station.number (fun _ _ _ => rfl)]
  exact OutsideStep.stepCarried (part := Station.number) ⟨fun _ _ _ _ _ _ _ _ => rfl, fun _ _ => rfl⟩ s

/-- A store step leaves the channel table. -/
theorem wholeStep_table (s : Station) : (wholeStep s).table = s.table := by
  rw [wholeStep_eq, closeStep_part Station.table (fun _ _ _ => rfl)]
  exact OutsideStep.stepCarried (part := Station.table) ⟨fun _ _ _ _ _ _ _ _ => rfl, fun _ _ => rfl⟩ s

/-- A store step moves the pulse timer, where it runs, and of the port otherwise the local frame's steps alone (R5,
R6). -/
theorem wholeStep_port (s : Station) :
    ∃ n, (wholeStep s).port = { s.port with localSteps := n, timer := s.port.timer.map (· + 1) } := by
  have hport : { (stepCarried s).port with localSteps := 0 } = { s.port with localSteps := 0 } :=
    OutsideStep.stepCarried (part := fun t => { t.port with localSteps := 0 })
      ⟨fun _ _ _ _ _ _ _ _ => rfl, fun _ _ => rfl⟩ s
  obtain ⟨n, h⟩ := (stepCarried s).port.tick_changes
  refine ⟨n, ?_⟩
  rw [wholeStep_eq, closeStep_port, h]
  simp only [Port.mk.injEq] at hport ⊢
  simp [hport]

/-- What a whole step leaves of the store: the count raised, no command carried, the lines shown, and the renew work of
the decision (R4, R136, R141, R152). -/
theorem wholeStep_store (s : Station) :
    (wholeStep s).store.step = s.store.step + 1 ∧ (wholeStep s).store.issued = none
    ∧ (∀ d ∈ s.store.due, d.step ≤ s.store.step → d.codes ∈ (wholeStep s).store.shown.read)
    ∧ (∀ cmd, decidedNow s = some cmd →
        (wholeStep s).store.shown.command = some (busCommand (wrapEngines (prepareStep s)) cmd))
    ∧ (s.store.issued = none →
        (wholeStep s).store.work = (decideStep (wrapEngines (prepareStep s))).workAfter) := by
  obtain ⟨hstep, hread, hcmd, hwork⟩ := stepCarried_store s
  obtain ⟨hnext, hissued, hshown, hkept⟩ := closeStep_store (stepCarried s)
  rw [wholeStep_eq, hnext, hissued, hshown, hkept, hstep]
  exact ⟨rfl, rfl, hread, hcmd, hwork⟩

end Sys2Proof.Machine
end

/-! A store step at which nothing falls due (R4, R6, R138, R143). -/
section
namespace Sys2Proof.Machine

/-- Work that every channel or engine leaves undone, the fold leaves undone. -/
theorem foldl_fixed {α β : Type} (f : α → β → α) (l : List β) (a : α) (h : ∀ b ∈ l, f a b = a) : l.foldl f a = a := by
  induction l with
  | nil => rfl
  | cons b bs ih =>
    rw [List.foldl_cons, h b List.mem_cons_self]
    exact ih fun x hx => h x (List.mem_cons_of_mem _ hx)

theorem eachEngine_fixed (f : Fin 16 → Station → Station) (s : Station) (h : ∀ e, f e s = s) : eachEngine f s = s :=
  foldl_fixed _ _ s fun e _ => h e

/-- Writing back what a place holds changes nothing. -/
theorem put_get_self {n : Nat} {α : Type} (t : Tbl n α) (i : Fin n) : t.put i (t.get i) = t := by
  simp [Tbl.put, Tbl.get]

/-- An engine's fields replaced by themselves. -/
theorem setEngine_self (e : Fin 16) (eng : Engine) (s : Station) (h : engineAt s e = some eng) :
    setEngine e eng s = s := by
  have hslot : ({ s.engines.get e with bound := some eng } : EngineSlot) = s.engines.get e := by
    rw [← h]; rfl
  rw [setEngine, hslot, put_get_self]

/-- An engine with no room in its ring does not ask (R124). -/
theorem requests_false (eng : Engine) (h : 16 < eng.ring.length + 16 * eng.flights.length) : eng.requests = false := by
  have : ¬ (16 : Int) ≤ eng.freeSpace := by unfold Engine.freeSpace; omega
  simp [Engine.requests, this]

section
variable {s : State} (h : NothingDue s)
include h

theorem NothingDue.arrivals_eq : Machine.arrivals s.toStation = s.toStation := by
  have hnow : (s.store.due.filter fun d => decide (d.step ≤ s.store.step)) = [] := by
    simpa using h.arrivals
  have hlater : (s.store.due.filter fun d => !decide (d.step ≤ s.store.step)) = s.store.due := by
    simpa using h.arrivals
  simp [Machine.arrivals, hnow, hlater]

theorem NothingDue.pendingCloses_eq : pendingCloses s.toStation = s.toStation := by
  refine foldl_fixed _ _ _ fun b _ => ?_
  have hdue : closeDue b s.toStation = false := by
    unfold closeDue
    split
    · rfl
    · simp [Nat.not_le.mpr (h.closes b _ ‹_›)]
  rw [hdue, whenDue_false]

theorem NothingDue.loaderReady_eq : loaderReady s.toStation = s.toStation := by
  unfold loaderReady
  split
  · rename_i hready
    simp only [Bool.and_eq_true, beq_iff_eq, decide_eq_true_eq, List.isEmpty_iff] at hready
    obtain ⟨⟨⟨hstate, hphase⟩, hempty⟩, hstore⟩ := hready
    rcases (h.loader hstate hphase).2 with hd | hr
    · exact absurd hempty hd
    · exact absurd hstore hr
  · rfl

theorem NothingDue.reaim_eq (e : Fin 16) : reaimEngine e s.toStation = s.toStation := by
  unfold reaimEngine
  split
  · rfl
  · rename_i eng he
    have haim : eng.reaim = eng := by simp [Engine.reaim, requests_false eng (h.engines e eng he).2]
    rw [haim, setEngine_self e eng _ he]

theorem NothingDue.wrap_eq (e : Fin 16) : wrapEngine e s.toStation = s.toStation := by
  unfold wrapEngine
  split
  · rfl
  · rename_i eng he
    split
    · rfl
    · rename_i r _
      have : ¬ eng.area.length ≤ eng.pointer.burst := Nat.not_le.mpr (h.engines e eng he).1
      simp [Engine.wrapDue, this]

theorem NothingDue.wrapEngines_eq : wrapEngines s.toStation = s.toStation := eachEngine_fixed _ _ h.wrap_eq

/-- With no local frame to begin, the preparation of the step changes nothing. -/
theorem NothingDue.prepareStep_eq (hlocal : s.port.timer = none → s.port.localSteps < 4) :
    prepareStep s.toStation = s.toStation := by
  have hframe : localFrameDue s.toStation = false := by
    cases ht : s.port.timer with
    | none => simp [localFrameDue, Nat.not_le.mpr (hlocal ht)]
    | some n => simp [localFrameDue, pulsePresent, ht]
  simp only [prepareStep, hframe, whenDue_false, h.arrivals_eq, h.pendingCloses_eq, h.loaderReady_eq]
  exact eachEngine_fixed _ _ h.reaim_eq

/-- No requester stands before the fetch scheduler. -/
theorem NothingDue.rankedList_eq : rankedList s.toStation = [] := by
  have hrecorder : recorderRequest s.toStation = none := by
    unfold recorderRequest
    split
    · rfl
    · simp [Recording.requests, Nat.not_le.mpr (h.recorder _ ‹_›)]
  have hloader : loaderRequest s.toStation = none := by
    have hasks : loaderRequests s.toStation = false := by
      by_contra hask
      simp only [loaderRequests, Bool.not_eq_false, Bool.and_eq_true, beq_iff_eq, decide_eq_true_eq] at hask
      obtain ⟨⟨hstate, hphase⟩, hhand⟩ := hask
      have := (h.loader hstate hphase).1
      omega
    simp [loaderRequest, hasks]
  have hengines : (numbers 16).filterMap (engineRequest s.toStation) = [] := by
    refine List.filterMap_eq_nil_iff.mpr fun e _ => ?_
    unfold engineRequest
    split
    · rfl
    · rename_i eng he
      split
      · rfl
      · simp [requests_false eng (h.engines e eng he).2]
  simp [rankedList, hrecorder, hloader, hengines]

/-- A store step that decides on no command, nothing being due, is its close alone. -/
theorem NothingDue.wholeStep_eq (hlocal : s.port.timer = none → s.port.localSteps < 4)
    (hdec : decideStep s.toStation = ⟨s.store.work, none⟩) : wholeStep s.toStation = closeStep s.toStation := by
  have hcarry : decideAndCarry s.toStation = s.toStation := by
    simp [decideAndCarry, h.wrapEngines_eq, hdec, performDecision]
  rw [Machine.wholeStep_eq, stepCarried_free s.toStation h.issued, h.prepareStep_eq hlocal, hcarry]

end

/-- The decision is none in the states with no command of their own (R143). -/
theorem decideStep_idle (s : State) (h : NothingDue s) (hi : storeIdles s.store) :
    decideStep s.toStation = ⟨s.store.work, none⟩ := by
  rcases hi with ⟨hst, hsetup⟩ | ⟨hst, hexit⟩ | hst | ⟨hst, hwork, hdebt⟩
  · simp [decideStep, hst, hsetup]
  · simp [decideStep, hst, hexit]
  · simp [decideStep, hst]
  · simp [decideStep, hst, decideReady, hwork, h.rankedList_eq, hdebt]

/-- No command is issued in the quiet states (R138). -/
theorem decideStep_quiet (s : Station) (hq : s.store.state.isQuiet = true) :
    decideStep s = ⟨s.store.work, none⟩ := by
  unfold decideStep
  cases hst : s.store.state <;> simp_all [StoreState.isQuiet]

/-- The clock of a step, as the pulse is present or absent (R5, R6). -/
theorem Port.tick_eq (p : Port) : p.tick = { p with
    localSteps := if p.timer = none then p.localSteps + 1 else p.localSteps
    timer := p.timer.map fun n => n + 1 } := by
  cases h : p.timer with
  | none => simp [Port.tick, h]
  | some k => simp [Port.tick, h]

/-- The close of a step outside the quiet states counts the step alone (R136). -/
theorem closeStep_notQuiet (s : Station) (hi : s.store.issued = none) (hq : s.store.state.isQuiet = false) :
    closeStep s = { s with
      port := s.port.tick
      store := { s.store with step := s.store.step + 1, lines := StepLines.idle, shown := s.store.lines } } := by
  simp [closeStep, closeStore, hi, hq, quietEndDue]

/-- The close of a step in the quiet states takes one quiet step, the last of which leaves the store READY (R138). -/
theorem closeStep_quiet (s : Station) (hi : s.store.issued = none) (hq : s.store.state.isQuiet = true) :
    closeStep s = { s with
      port := s.port.tick
      store := { s.store with
        step := s.store.step + 1, lines := StepLines.idle, shown := s.store.lines, quiet := s.store.quiet - 1
        state := if s.store.quiet ≤ 1 then .ready else s.store.state } } := by
  by_cases hlast : s.store.quiet ≤ 1
  · have : s.store.quiet - 1 = 0 := by omega
    simp [closeStep, closeStore, hi, hq, quietEndDue, this, hlast, endQuiet]
  · have : (s.store.quiet - 1 == 0) = false := by simp; omega
    simp [closeStep, closeStore, hi, hq, quietEndDue, this, hlast]

/-- A step that closes before the eighth since the last accepted pulse brings no pulse loss (R5). -/
theorem exec_storeStep_noLoss (s : State) (h : ∀ n, (wholeStep s.toStation).port.timer = some n → n < 8) :
    exec .storeStep s = .next { s with toStation := wholeStep s.toStation } := by
  have hloss : pulseLossDue (wholeStep s.toStation) = false := by
    unfold pulseLossDue
    split
    · rfl
    · simpa using h _ ‹_›
  simp [exec, execStoreStep, storeStep, hloss]

end Sys2Proof.Machine

namespace Sys2Proof.Proofs
open Sys2Proof Sys2Proof.Machine

/-- Settles O9: with nothing due the step is its close alone, which the store's state decides. -/
theorem idleStoreStepMovesTheClock : Obligations.IdleStoreStepMovesTheClock := by
  intro s h hlocal htimer port hport
  have hrun : ∀ t : Station, decideStep s.toStation = ⟨s.store.work, none⟩ → closeStep s.toStation = t →
      exec .storeStep s = .next { s with toStation := t } := by
    intro t hdec hclose
    have hwhole := h.wholeStep_eq hlocal hdec
    rw [exec_storeStep_noLoss s ?_, hwhole, hclose]
    intro n hn
    rw [hwhole, closeStep_port, Port.tick_eq] at hn
    obtain ⟨k, hk, rfl⟩ := Option.map_eq_some_iff.mp hn
    have := htimer k hk
    omega
  have htick : s.port.tick = port := by rw [hport, Port.tick_eq]
  refine ⟨fun hi => ?_, fun hq => ?_⟩
  · have hquiet : s.store.state.isQuiet = false := by
      rcases hi with ⟨hst, -⟩ | ⟨hst, -⟩ | hst | ⟨hst, -⟩ <;> rw [hst] <;> rfl
    rw [hrun _ (decideStep_idle s h hi) (closeStep_notQuiet s.toStation h.issued hquiet), htick]
  · have hquiet : s.store.state.isQuiet = true := by
      rcases hq with hst | hst | hst <;> rw [hst] <;> rfl
    rw [hrun _ (decideStep_quiet s.toStation hquiet) (closeStep_quiet s.toStation h.issued hquiet), htick]

end Sys2Proof.Proofs
end

/-! The ranked list, what is legal at a step, and the command decided (R132, R138 to R143, R146, R147, R149). -/
section
namespace Sys2Proof.Machine

/-! ### The ranked list (R132) -/

theorem ranksBefore_trans (a b c : Request) (hab : ranksBefore a b) (hbc : ranksBefore b c) : ranksBefore a c := by
  unfold ranksBefore at *
  omega

theorem ranksBefore_asymm (a b : Request) (hab : ranksBefore a b) : ¬ ranksBefore b a := by
  unfold ranksBefore at *
  omega

theorem mem_rankIn (q x : Request) (l : List Request) : x ∈ rankIn q l ↔ x = q ∨ x ∈ l := by
  induction l with
  | nil => simp [rankIn]
  | cons y ys ih =>
    unfold rankIn
    split
    · simp
    · simp only [List.mem_cons, ih]
      tauto

/-- A request put in behind requesters of lower place keeps the list in rank. -/
theorem rankIn_pairwise (q : Request) (l : List Request) (hl : l.Pairwise ranksBefore)
    (hplace : ∀ x ∈ l, rankPlace x.who < rankPlace q.who) : (rankIn q l).Pairwise ranksBefore := by
  induction l with
  | nil => simp [rankIn]
  | cons y ys ih =>
    obtain ⟨hy, hys⟩ := List.pairwise_cons.mp hl
    unfold rankIn
    split
    · rename_i hlt
      refine List.pairwise_cons.mpr ⟨fun x hx => ?_, hl⟩
      rcases List.mem_cons.mp hx with rfl | hx
      · exact .inl hlt
      · exact ranksBefore_trans q y x (.inl hlt) (hy x hx)
    · rename_i hge
      refine List.pairwise_cons.mpr ⟨fun x hx => ?_, ih hys fun x hx => hplace x (List.mem_cons_of_mem _ hx)⟩
      rcases (mem_rankIn q x ys).mp hx with rfl | hx
      · have := hplace y List.mem_cons_self
        unfold ranksBefore
        omega
      · exact hy x hx

/-- Requests in order of place, ranked one after another, come out in rank, each once. -/
theorem foldl_rankIn (qs : List Request) (hqs : qs.Pairwise fun x y => rankPlace x.who < rankPlace y.who) :
    ∀ l : List Request, l.Pairwise ranksBefore → (∀ x ∈ l, ∀ q ∈ qs, rankPlace x.who < rankPlace q.who) →
      (qs.foldl (fun l q => rankIn q l) l).Pairwise ranksBefore
        ∧ ∀ x, x ∈ qs.foldl (fun l q => rankIn q l) l ↔ x ∈ l ∨ x ∈ qs := by
  induction qs with
  | nil => intro l hl _; exact ⟨hl, by simp⟩
  | cons q rest ih =>
    intro l hl hplace
    obtain ⟨hq, hrest⟩ := List.pairwise_cons.mp hqs
    obtain ⟨hsorted, hmem⟩ := ih hrest (rankIn q l)
      (rankIn_pairwise q l hl fun x hx => hplace x hx q List.mem_cons_self) (fun x hx y hy => by
        rcases (mem_rankIn q x l).mp hx with rfl | hx
        · exact hq y hy
        · exact hplace x hx y (List.mem_cons_of_mem _ hy))
    refine ⟨hsorted, fun x => ?_⟩
    rw [List.foldl_cons, hmem, mem_rankIn, List.mem_cons]
    tauto

theorem recorderRequest_who (s : Station) (q : Request) (h : recorderRequest s = some q) :
    q.who = .recorder ∧ ∃ r, s.recorder = some r ∧ q.address = recordAddress s r := by
  unfold recorderRequest at h
  split at h
  · cases h
  · split at h
    · cases h; exact ⟨rfl, _, ‹_›, rfl⟩
    · cases h

theorem loaderRequest_who (s : Station) (q : Request) (h : loaderRequest s = some q) :
    q.who = .loader ∧ q.address = loaderAddress s := by
  unfold loaderRequest at h
  split at h
  · cases h; exact ⟨rfl, rfl⟩
  · cases h

theorem engineRequest_who (s : Station) (e : Fin 16) (q : Request) (h : engineRequest s e = some q) :
    q.who = .engine e ∧ ∃ eng, engineAt s e = some eng ∧ q.address = eng.address := by
  unfold engineRequest at h
  split at h
  · cases h
  · split at h
    · cases h
    · split at h
      · cases h; exact ⟨rfl, _, ‹_›, rfl⟩
      · cases h

/-- The requests of a step before they are ranked. -/
def requestsOf (s : Station) : List Request :=
  (recorderRequest s).toList ++ (loaderRequest s).toList ++ (numbers 16).filterMap (engineRequest s)

theorem mem_requestsOf (s : Station) (q : Request) : q ∈ requestsOf s ↔ asks s q := by
  simp only [requestsOf, asks, List.mem_append, Option.mem_toList, List.mem_filterMap, numbers, List.mem_finRange,
    true_and, or_assoc]

/-- The requests stand in order of place: the recorder, the loader, the engines by number. -/
theorem requestsOf_pairwise (s : Station) :
    (requestsOf s).Pairwise fun x y => rankPlace x.who < rankPlace y.who := by
  have hengine : ∀ q ∈ (numbers 16).filterMap (engineRequest s), 2 ≤ rankPlace q.who := by
    intro q hq
    obtain ⟨e, -, he⟩ := List.mem_filterMap.mp hq
    rw [(engineRequest_who s e q he).1]
    exact Nat.le_add_left 2 e.val
  have hengines : ((numbers 16).filterMap (engineRequest s)).Pairwise
      fun x y => rankPlace x.who < rankPlace y.who := by
    refine List.Pairwise.filterMap _ ?_ (List.pairwise_lt_finRange 16)
    intro e f hef x hx y hy
    rw [(engineRequest_who s e x hx).1, (engineRequest_who s f y hy).1]
    exact Nat.add_lt_add_right hef 2
  refine List.pairwise_append.mpr ⟨List.pairwise_append.mpr ⟨?_, ?_, ?_⟩, hengines, ?_⟩
  · cases recorderRequest s <;> simp
  · cases loaderRequest s <;> simp
  · intro x hx y hy
    rw [(recorderRequest_who s x (Option.mem_toList.mp hx)).1, (loaderRequest_who s y (Option.mem_toList.mp hy)).1]
    decide
  · intro x hx y hy
    have := hengine y hy
    rcases List.mem_append.mp hx with hx | hx
    · rw [(recorderRequest_who s x (Option.mem_toList.mp hx)).1]; exact Nat.lt_of_lt_of_le (by decide) this
    · rw [(loaderRequest_who s x (Option.mem_toList.mp hx)).1]; exact Nat.lt_of_lt_of_le (by decide) this

/-- The ranked list holds the requests of the step, in rank (R132). -/
theorem rankedList_spec (s : Station) :
    (rankedList s).Pairwise ranksBefore ∧ ∀ q, q ∈ rankedList s ↔ asks s q := by
  obtain ⟨hsorted, hmem⟩ := foldl_rankIn (requestsOf s) (requestsOf_pairwise s) [] List.Pairwise.nil (by simp)
  refine ⟨hsorted, fun q => ?_⟩
  have hq := hmem q
  rw [mem_requestsOf] at hq
  exact hq.trans (by simp)

theorem rankedList_eq_nil (s : Station) : rankedList s = [] ↔ ∀ q, ¬ asks s q := by
  simp only [List.eq_nil_iff_forall_not_mem, (rankedList_spec s).2]

/-! ### What is legal at a step (R138 to R141) -/

theorem farEnough_iff (last : Option Nat) (d n : Nat) : farEnough last d n = true ↔ apart last d n := by
  cases last <;> simp [farEnough, apart]

theorem closedAt_iff (t : Store) (b : Fin 8) : (t.banks.get b).closedAt t.step = true ↔ isClosed t b := by
  simp [Bank.closedAt, isClosed, farEnough_iff, and_assoc]

theorem allClosed_iff (t : Store) : t.allClosed = true ↔ ∀ b, isClosed t b := by
  simp [Store.allClosed, numbers, closedAt_iff]

theorem closeLegal_iff (s : Station) (b : Fin 8) : s.store.closeLegal b = true ↔ keepsTheRules s (.close b) := by
  simp [Store.closeLegal, keepsTheRules, farEnough_iff, Option.isSome_iff_ne_none, and_assoc]

theorem openLegal_iff (s : Station) (b : Fin 8) (row : Nat) :
    s.store.openLegal b row = true ↔ keepsTheRules s (.openRow b row) := by
  simp only [Store.openLegal, keepsTheRules, Bool.and_eq_true, beq_iff_eq, closedAt_iff, farEnough_iff, List.all_eq_true,
    numbers, List.mem_finRange, true_implies, Bool.or_eq_true, bne_iff_ne, groupOf, decide_eq_true_eq]
  have hgroup : (∀ x : Fin 8, x.val % 2 ≠ b.val % 2 ∨ apart (s.store.banks.get x).lastOpen 2 s.store.step)
      ↔ ∀ x : Fin 8, x.val % 2 = b.val % 2 → apart (s.store.banks.get x).lastOpen 2 s.store.step :=
    forall_congr' fun x => by tauto
  have hwindow : (s.store.opens.length < 3 ∨ apart s.store.opens.head? 6 s.store.step)
      ↔ (3 ≤ s.store.opens.length → apart s.store.opens.head? 6 s.store.step) := by
    rw [← Nat.not_le]; tauto
  rw [hgroup, hwindow]
  tauto

theorem fetchLegal_iff (t : Store) (a : Nat) : t.fetchLegal (bankOf a) (rowOf a) = true ↔ burstOpen t a := by
  unfold rowOf
  simp only [Store.fetchLegal, burstOpen, Bank.openOn, Bool.and_eq_true, beq_iff_eq, farEnough_iff,
    decide_eq_true_eq, Option.isNone_iff_eq_none]
  tauto

theorem dataDue_eq_false (t : Store) : t.dataDue = false ↔ t.lines.read = [] ∧ ∀ d ∈ t.due, d.step ≠ t.step := by
  simp [Store.dataDue]

theorem putLegal_iff (t : Store) (a : Nat) : t.putLegal (bankOf a) (rowOf a) = true
    ↔ burstOpen t a ∧ t.lines.read = [] ∧ ∀ d ∈ t.due, d.step ≠ t.step := by
  rw [Store.putLegal, Bool.and_eq_true, fetchLegal_iff, Bool.not_eq_true', dataDue_eq_false]

/-- The address of a request is the one its command names (R124, R165, R176). -/
theorem requestAddress_of_asks (s : Station) (q : Request) (h : asks s q) : requestAddress s q.who = q.address := by
  rcases h with h | h | ⟨e, h⟩
  · obtain ⟨hwho, r, hr, haddr⟩ := recorderRequest_who s q h
    simp [hwho, requestAddress, hr, haddr]
  · obtain ⟨hwho, haddr⟩ := loaderRequest_who s q h
    simp [hwho, requestAddress, haddr]
  · obtain ⟨hwho, eng, he, haddr⟩ := engineRequest_who s e q h
    simp [hwho, requestAddress, he, haddr]

theorem accessOf_eq (l : List Request) (q : Request) : accessOf l q = access q.who (!shares l q) := by
  unfold accessOf access
  cases q.who <;> rfl

/-- The read or write of a request is legal where it keeps the rules. -/
theorem legalFor_access (s : Station) (q : Request) (hq : asks s q) (close : Bool) :
    legalFor s.store q (access q.who close) = true ↔ keepsTheRules s (access q.who close) := by
  have haddr := requestAddress_of_asks s q hq
  cases hwho : q.who with
  | engine e =>
    obtain ⟨eng, he, heq⟩ : ∃ eng, engineAt s e = some eng ∧ q.address = eng.address := by
      rcases hq with h | h | ⟨f, h⟩
      · simp [(recorderRequest_who s q h).1] at hwho
      · simp [(loaderRequest_who s q h).1] at hwho
      · obtain ⟨hf, heng⟩ := engineRequest_who s f q h
        rw [hwho] at hf
        cases hf
        exact heng
    simp only [access, legalFor, keepsTheRules, fetchLegal_iff, heq, he, Engine.address]
    simp
  | recorder =>
    rw [hwho] at haddr
    simp only [access, legalFor, keepsTheRules, putLegal_iff, haddr]
  | loader =>
    rw [hwho] at haddr
    simp only [access, legalFor, keepsTheRules, putLegal_iff, haddr]

/-! ### The next command of a request (R142) -/

theorem shares_iff (s : Station) (q : Request) : shares (rankedList s) q = true ↔ sharesRow s q := by
  simp [shares, sharesRow, rowOf, (rankedList_spec s).2, and_assoc]

/-- What R142's table turns on: the bank's pending close, its open row, and whether the row is shared. -/
theorem nextCommand_cases (s : Station) (q : Request) :
    ((s.store.banks.get (bankOf q.address)).pendingClose = none
      ∧ (s.store.banks.get (bankOf q.address)).openRow = some (q.address / 512) ∧ sharesRow s q
      ∧ nextCommand s.store (rankedList s) q = access q.who false)
    ∨ ((s.store.banks.get (bankOf q.address)).pendingClose = none
      ∧ (s.store.banks.get (bankOf q.address)).openRow = some (q.address / 512) ∧ ¬ sharesRow s q
      ∧ nextCommand s.store (rankedList s) q = access q.who true)
    ∨ ((s.store.banks.get (bankOf q.address)).pendingClose = none
      ∧ (∃ row, (s.store.banks.get (bankOf q.address)).openRow = some row ∧ row ≠ q.address / 512)
      ∧ nextCommand s.store (rankedList s) q = .close (bankOf q.address))
    ∨ (((s.store.banks.get (bankOf q.address)).pendingClose ≠ none
        ∨ (s.store.banks.get (bankOf q.address)).openRow = none)
      ∧ nextCommand s.store (rankedList s) q = .openRow (bankOf q.address) (q.address / 512)) := by
  cases hclose : (s.store.banks.get (bankOf q.address)).pendingClose with
  | some k => exact .inr (.inr (.inr ⟨.inl (by simp), by simp [nextCommand, hclose, rowOf]⟩))
  | none =>
    cases hopen : (s.store.banks.get (bankOf q.address)).openRow with
    | none => exact .inr (.inr (.inr ⟨.inr rfl, by simp [nextCommand, hclose, hopen, rowOf]⟩))
    | some row =>
      by_cases hrow : row = q.address / 512
      · by_cases hshare : sharesRow s q
        · have := (shares_iff s q).mpr hshare
          exact .inl ⟨rfl, by rw [hrow], hshare, by simp [nextCommand, hclose, hopen, rowOf, hrow, accessOf_eq, this]⟩
        · have : shares (rankedList s) q = false := by
            rw [← Bool.not_eq_true, shares_iff]; exact hshare
          exact .inr (.inl ⟨rfl, by rw [hrow], hshare,
            by simp [nextCommand, hclose, hopen, rowOf, hrow, accessOf_eq, this]⟩)
      · exact .inr (.inr (.inl ⟨rfl, ⟨row, rfl, hrow⟩, by simp [nextCommand, hclose, hopen, rowOf, hrow]⟩))

/-- The next command of a request is the one of R142's table, and no other is. -/
theorem nextCommand_iff (s : Station) (q : Request) (cmd : StoreCmd) :
    NextCommand s q cmd ↔ cmd = nextCommand s.store (rankedList s) q := by
  rcases nextCommand_cases s q with ⟨hp, ho, hs, he⟩ | ⟨hp, ho, hs, he⟩ | ⟨hp, ⟨row, ho, hr⟩, he⟩ | ⟨hn, he⟩ <;> rw [he]
  · refine ⟨fun h => h.shared hp ho hs, fun h => ⟨fun _ _ _ => h, fun _ _ hs' => absurd hs hs', fun _ row hrow hne => ?_,
      fun hn => ?_⟩⟩
    · exact absurd (Option.some.inj (hrow.symm.trans ho)) hne
    · simp [hp, ho] at hn
  · refine ⟨fun h => h.alone hp ho hs, fun h => ⟨fun _ _ hs' => absurd hs' hs, fun _ _ _ => h, fun _ row hrow hne => ?_,
      fun hn => ?_⟩⟩
    · exact absurd (Option.some.inj (hrow.symm.trans ho)) hne
    · simp [hp, ho] at hn
  · refine ⟨fun h => h.otherRow hp row ho hr, fun h => ⟨fun _ ho' => ?_, fun _ ho' => ?_, fun _ _ _ _ => h, fun hn => ?_⟩⟩
    · exact absurd (Option.some.inj (ho.symm.trans ho')) hr
    · exact absurd (Option.some.inj (ho.symm.trans ho')) hr
    · simp [hp, ho] at hn
  · refine ⟨fun h => h.notOpen hn, fun h => ⟨fun hp ho => ?_, fun hp ho => ?_, fun hp row ho => ?_, fun _ => h⟩⟩ <;>
      simp [hp, ho] at hn

/-- A request's next command is legal exactly where it keeps the rules (R138 to R141). -/
theorem legalFor_next (s : Station) (q : Request) (hq : asks s q) :
    legalFor s.store q (nextCommand s.store (rankedList s) q) = true
      ↔ keepsTheRules s (nextCommand s.store (rankedList s) q) := by
  rcases nextCommand_cases s q with ⟨-, -, -, he⟩ | ⟨-, -, -, he⟩ | ⟨-, -, he⟩ | ⟨-, he⟩ <;> rw [he]
  · exact legalFor_access s q hq false
  · exact legalFor_access s q hq true
  · exact closeLegal_iff s _
  · exact openLegal_iff s _ _

/-! ### The first requester that can be served (R143) -/

/-- The command found is the next command of a requester of the list whose next command is legal, and of the requesters
before it none is legal; where none is found none is legal. -/
theorem firstLegal_spec (t : Store) (l : List Request) : ∀ rest : List Request,
    (∀ cmd, firstLegal t l rest = some cmd → ∃ before q after, rest = before ++ q :: after
      ∧ cmd = nextCommand t l q ∧ legalFor t q (nextCommand t l q) = true
      ∧ ∀ x ∈ before, legalFor t x (nextCommand t l x) = false)
    ∧ (firstLegal t l rest = none → ∀ x ∈ rest, legalFor t x (nextCommand t l x) = false) := by
  intro rest
  induction rest with
  | nil => simp [firstLegal]
  | cons q more ih =>
    cases hq : legalFor t q (nextCommand t l q) with
    | true =>
      simp only [firstLegal, hq, if_true]
      refine ⟨fun cmd h => ⟨[], q, more, rfl, (Option.some.inj h).symm, hq, by simp⟩, by simp⟩
    | false =>
      simp only [firstLegal, hq, Bool.false_eq_true, if_false]
      refine ⟨fun cmd h => ?_, fun h x hx => ?_⟩
      · obtain ⟨before, p, after, hsplit, hcmd, hlegal, hbefore⟩ := ih.1 cmd h
        refine ⟨q :: before, p, after, by simp [hsplit], hcmd, hlegal, fun x hx => ?_⟩
        rcases List.mem_cons.mp hx with rfl | hx
        · exact hq
        · exact hbefore x hx
      · rcases List.mem_cons.mp hx with rfl | hx
        · exact hq
        · exact ih.2 h x hx

/-- The command served is the next command of the first requester, in rank, whose next command is legal (R132, R142,
R143). -/
theorem served_spec (s : Station) :
    (∀ cmd, firstLegal s.store (rankedList s) (rankedList s) = some cmd →
      ∃ q, asks s q ∧ NextCommand s q cmd ∧ keepsTheRules s cmd
        ∧ ∀ x, asks s x → ranksBefore x q → ∀ c, NextCommand s x c → ¬ keepsTheRules s c)
    ∧ (firstLegal s.store (rankedList s) (rankedList s) = none →
      ∀ x, asks s x → ∀ c, NextCommand s x c → ¬ keepsTheRules s c) := by
  obtain ⟨hfound, hnone⟩ := firstLegal_spec s.store (rankedList s) (rankedList s)
  obtain ⟨hsorted, hmem⟩ := rankedList_spec s
  have hillegal : ∀ x, asks s x → legalFor s.store x (nextCommand s.store (rankedList s) x) = false →
      ∀ c, NextCommand s x c → ¬ keepsTheRules s c := by
    intro x hx hlegal c hc
    rw [(nextCommand_iff s x c).mp hc, ← legalFor_next s x hx, hlegal]
    simp
  refine ⟨fun cmd h => ?_, fun h x hx => hillegal x hx (hnone h x ((hmem x).mpr hx))⟩
  obtain ⟨before, q, after, hsplit, hcmd, hlegal, hbefore⟩ := hfound cmd h
  have hq : asks s q := (hmem q).mp (by rw [hsplit]; simp)
  refine ⟨q, hq, (nextCommand_iff s q cmd).mpr hcmd, hcmd ▸ (legalFor_next s q hq).mp hlegal, fun x hx hrank => ?_⟩
  rw [hsplit] at hsorted
  obtain ⟨-, hafter, -⟩ := List.pairwise_append.mp hsorted
  have hxl : x ∈ before ++ q :: after := hsplit ▸ (hmem x).mpr hx
  rcases List.mem_append.mp hxl with hxb | hxa
  · exact hillegal x hx (hbefore x hxb)
  · rcases List.mem_cons.mp hxa with rfl | hxa
    · exact absurd hrank (ranksBefore_asymm _ _ hrank)
    · exact absurd hrank (ranksBefore_asymm _ _ ((List.pairwise_cons.mp hafter).1 x hxa))

/-! ### Renewing (R146, R147, R149) -/

/-- A step toward every bank being closed closes the lowest-numbered bank that can be (R146). -/
theorem closing_spec (s : Station) : closesLowest s s.store.closing := by
  refine ⟨fun b hb hlow => ?_, fun hnone => ?_⟩
  · have : s.store.closable = some b := by
      refine List.find?_eq_some_iff_getElem.mpr ⟨(closeLegal_iff s b).mpr hb, b.val, by simp [numbers], by simp [numbers], ?_⟩
      intro j hj
      have hx := hlow ⟨j, by omega⟩ hj
      rw [← closeLegal_iff] at hx
      simpa [numbers] using hx
    simp [Store.closing, this]
  · have : s.store.closable = none := by
      refine List.find?_eq_none.mpr fun b _ => ?_
      rw [closeLegal_iff]
      exact hnone b
    simp [Store.closing, this]

/-- A step toward every bank being closed issues a CLOSE that keeps the rules, or nothing. -/
theorem closing_some (s : Station) (cmd : StoreCmd) (h : s.store.closing = some cmd) :
    ∃ b, cmd = .close b ∧ keepsTheRules s cmd := by
  obtain ⟨b, hb, rfl⟩ := Option.map_eq_some_iff.mp h
  exact ⟨b, rfl, (closeLegal_iff s b).mp (List.find?_some hb)⟩

/-- The renew work of a step that closes banks stands. -/
theorem workAfter_closing (s : Station) (w : RenewWork) : Decision.workAfter ⟨w, s.store.closing⟩ = w := by
  have : ∀ cmd, s.store.closing = some cmd → ∃ b, cmd = .close b := fun cmd h =>
    (closing_some s cmd h).imp fun _ hb => hb.1
  unfold Decision.workAfter
  cases hc : s.store.closing with
  | none => simp
  | some cmd => obtain ⟨b, rfl⟩ := this cmd hc; simp

/-- RENEW where every bank is closed, and otherwise a step toward it (R146, R147). -/
theorem renewsOrCloses_spec (s : Station) (w : RenewWork) (d : Decision)
    (hd : d = ⟨w, if s.store.allClosed then some .renew else s.store.closing⟩) :
    renewsOrCloses s w d.cmd d.workAfter := by
  by_cases hall : s.store.allClosed = true
  · rw [if_pos hall] at hd
    exact ⟨fun _ => by simp [hd, Decision.workAfter], fun h => absurd ((allClosed_iff _).mp hall) h⟩
  · rw [if_neg hall] at hd
    refine ⟨fun h => absurd ((allClosed_iff _).mpr h) hall, fun _ => ?_⟩
    rw [hd]
    exact ⟨closing_spec s, workAfter_closing s w⟩

/-- What a READY step decides, by its renew work and its requesters (R143 cases 4 to 7). -/
theorem decideReady_forced (s : Station) (h : s.store.work = .forced) :
    decideReady s = ⟨.forced, if s.store.allClosed then some .renew else s.store.closing⟩ := by
  simp [decideReady, h]

theorem decideReady_entry (s : Station) (h : s.store.work = .entry) : decideReady s =
    ⟨.entry, if s.store.allClosed && s.store.due.isEmpty then some .selfRenewEntry else s.store.closing⟩ := by
  simp [decideReady, h]

theorem decideReady_served (s : Station) (h : s.store.work = .none ∨ s.store.work = .early) (hq : ∃ q, asks s q) :
    decideReady s = ⟨.none, firstLegal s.store (rankedList s) (rankedList s)⟩ := by
  obtain ⟨q, hq⟩ := hq
  have hne : (rankedList s).isEmpty = false := by
    rw [List.isEmpty_eq_false_iff]
    exact List.ne_nil_of_mem (((rankedList_spec s).2 q).mpr hq)
  rcases h with h | h <;> simp [decideReady, h, hne]

theorem decideReady_idle (s : Station) (h : s.store.work = .none ∨ s.store.work = .early) (hq : ∀ q, ¬ asks s q) :
    decideReady s =
      if -2 < s.store.debt then ⟨.early, if s.store.allClosed then some .renew else s.store.closing⟩
      else ⟨.none, none⟩ := by
  have hnil := (rankedList_eq_nil s).mpr hq
  rcases h with h | h <;> simp [decideReady, h, hnil]

/-- The renew work in hand: none or early, or one of the two that no requester is served in. -/
theorem work_cases (w : RenewWork) : w = .forced ∨ w = .entry ∨ (w = .none ∨ w = .early) := by
  cases w <;> simp

/-- A requester's command is no renew command. -/
theorem served_workAfter (s : Station) :
    Decision.workAfter ⟨.none, firstLegal s.store (rankedList s) (rankedList s)⟩ = .none := by
  unfold Decision.workAfter
  split <;> rfl

/-- In READY the command decided keeps the rules (R138 to R141). -/
theorem decideReady_keeps (s : Station) (hst : s.store.state = .ready) (cmd : StoreCmd)
    (h : (decideReady s).cmd = some cmd) : keepsTheRules s cmd := by
  have hrenew : ∀ w, Decision.cmd ⟨w, if s.store.allClosed then some .renew else s.store.closing⟩ = some cmd →
      keepsTheRules s cmd := by
    intro w hc
    by_cases hall : s.store.allClosed = true
    · simp only [hall, if_true, Option.some.injEq] at hc
      subst hc
      exact ⟨hst, (allClosed_iff _).mp hall⟩
    · simp only [hall, Bool.false_eq_true, if_false] at hc
      exact (closing_some s cmd hc).choose_spec.2
  rcases work_cases s.store.work with hw | hw | hw
  · rw [decideReady_forced s hw] at h
    exact hrenew _ h
  · rw [decideReady_entry s hw] at h
    by_cases hall : (s.store.allClosed && s.store.due.isEmpty) = true
    · simp only [hall, if_true, Option.some.injEq] at h
      subst h
      simp only [Bool.and_eq_true, List.isEmpty_iff] at hall
      exact ⟨hst, (allClosed_iff _).mp hall.1, hall.2⟩
    · simp only [hall, Bool.false_eq_true, if_false] at h
      exact (closing_some s cmd h).choose_spec.2
  · by_cases hq : ∃ q, asks s q
    · rw [decideReady_served s hw hq] at h
      obtain ⟨q, -, -, hkeeps, -⟩ := (served_spec s).1 cmd h
      exact hkeeps
    · rw [decideReady_idle s hw (not_exists.mp hq)] at h
      split at h
      · exact hrenew _ h
      · cases h

theorem decideStep_ready (s : Station) (h : s.store.state = .ready) : decideStep s = decideReady s := by
  simp [decideStep, h]

/-- The command decided at a step keeps the rules, in every store state (R138 to R141). -/
theorem decideStep_keeps (s : Station) (cmd : StoreCmd) (h : (decideStep s).cmd = some cmd) : keepsTheRules s cmd := by
  cases hst : s.store.state with
  | selfRenew =>
    simp only [decideStep, hst] at h
    split at h
    · cases h; exact hst
    · cases h
  | unset =>
    simp only [decideStep, hst] at h
    split at h
    · obtain ⟨n, -, rfl⟩ := Option.map_eq_some_iff.mp h
      exact ⟨hst, (allClosed_iff _).mp ‹_›⟩
    · cases h
  | ready =>
    rw [decideStep_ready s hst] at h
    exact decideReady_keeps s hst cmd h
  | stopped => simp [decideStep, hst] at h
  | setting => simp [decideStep, hst] at h
  | renewing => simp [decideStep, hst] at h
  | waking => simp [decideStep, hst] at h

/-- What a READY step makes of its renew work (R143 cases 4, 6 and 7). -/
theorem decideReady_renewStep (s : Station) : RenewStep s (decideReady s).cmd (decideReady s).workAfter where
  forced := fun hw => renewsOrCloses_spec s .forced _ (decideReady_forced s hw)
  entry := fun hw => by
    rw [decideReady_entry s hw]
    refine ⟨fun hall hdue => ?_, fun hnot => ?_⟩
    · simp [(allClosed_iff _).mpr hall, hdue, Decision.workAfter]
    · have : (s.store.allClosed && s.store.due.isEmpty) = false := by
        rw [← Bool.not_eq_true, Bool.and_eq_true, allClosed_iff, List.isEmpty_iff]
        tauto
      simp only [this, Bool.false_eq_true, if_false]
      exact ⟨closing_spec s, workAfter_closing s .entry⟩
  early := fun hw hq => by
    have hidle := decideReady_idle s hw hq
    refine ⟨fun hdebt => ?_, fun hdebt => ?_⟩
    · rw [if_pos hdebt] at hidle
      exact renewsOrCloses_spec s .early _ hidle
    · rw [if_neg (by omega)] at hidle
      rw [hidle]
      exact ⟨rfl, rfl⟩

/-! ### The step as a command (R4, R5) -/

/-- A pulse loss leaves the store's count, the carried command and the station number. -/
theorem pulseLoss_keeps (s : Station) : (pulseLoss s).store.step = s.store.step
    ∧ (pulseLoss s).store.issued = s.store.issued ∧ (pulseLoss s).number = s.number := by
  have hframe : ∀ t : Station, (startLocalFrame t).store.step = t.store.step
      ∧ (startLocalFrame t).store.issued = t.store.issued ∧ (startLocalFrame t).number = t.number := by
    intro t
    obtain ⟨n, d, w, h⟩ := storeFrame_changes { t with port := { t.port with localSteps := 0 } }
    rw [startLocalFrame, h]
    exact ⟨rfl, rfl, rfl⟩
  obtain ⟨m, hm, -⟩ := clearGrade_changes s
  cases hc : s.orders.countdown with
  | none => simp [pulseLoss, hm, hc, hframe]
  | some k => simp [pulseLoss, hm, hc, hframe, enterHalted, Store.halt]

theorem exec_storeStep (s : State) : exec .storeStep s = .next ⟨storeStep s.toStation, s.pending⟩ := rfl

theorem storeStep_keeps (s : Station) : (storeStep s).store.step = s.store.step + 1
    ∧ (storeStep s).store.issued = none ∧ (storeStep s).number = s.number := by
  obtain ⟨hstep, hissued, -⟩ := wholeStep_store s
  obtain ⟨hstep', hissued', hnumber'⟩ := pulseLoss_keeps (wholeStep s)
  cases hloss : pulseLossDue (wholeStep s) with
  | false =>
    simp only [storeStep, hloss, whenDue_false]
    exact ⟨hstep, hissued, wholeStep_number s⟩
  | true =>
    simp only [storeStep, hloss, whenDue_true]
    exact ⟨hstep'.trans hstep, hissued'.trans hissued, hnumber'.trans (wholeStep_number s)⟩

theorem wholeStep_timer (s : Station) : (wholeStep s).port.timer = s.port.timer.map (· + 1) := by
  obtain ⟨n, h⟩ := wholeStep_port s
  rw [h]

/-- The step that closes as the eighth since the last accepted pulse ends in the pulse loss (R5). -/
theorem exec_storeStep_loss (s : State) (n : Nat) (ht : s.port.timer = some n) (hn : 8 ≤ n + 1) :
    exec .storeStep s = exec .pulseLoss { s with toStation := wholeStep s.toStation } := by
  have htimer : (wholeStep s.toStation).port.timer = some (n + 1) := by rw [wholeStep_timer, ht]; rfl
  rw [exec_pulseLoss { s with toStation := wholeStep s.toStation } (n + 1) htimer hn, exec_storeStep, storeStep,
    pulseLossDue_some _ _ htimer, decide_eq_true hn, whenDue_true]

end Sys2Proof.Machine

namespace Sys2Proof.Proofs
open Sys2Proof Sys2Proof.Machine

/-- Settles O8: the step is the whole step with the pulse loss that comes of the eighth, and the decision on the
prepared and wrapped station is read off case by case. -/
theorem storeStepIsCounted : Obligations.StoreStepIsCounted := by
  intro s
  obtain ⟨-, -, hread, hcmd, hwork⟩ := wholeStep_store s.toStation
  refine ⟨⟨_, exec_storeStep s, rfl, ?_⟩, ?_, ?_⟩
  · dsimp only
    exact storeStep_keeps s.toStation
  · rintro u rfl
    dsimp only
    refine ⟨fun ht => ?_, fun n ht => ⟨?_, fun hn => ?_, fun hn => exec_storeStep_loss s n ht hn⟩, hread, hcmd⟩
    · have htimer : (wholeStep s.toStation).port.timer = none := by simp [wholeStep_timer, ht]
      exact ⟨exec_storeStep_noLoss s (by simp [htimer]), htimer⟩
    · exact (wholeStep_timer s.toStation).trans (by rw [ht]; rfl)
    · have htimer : (wholeStep s.toStation).port.timer = some (n + 1) := by rw [wholeStep_timer, ht]; rfl
      exact exec_storeStep_noLoss s (by simp [htimer]; omega)
  · intro p hp hissued
    rw [decidedNow_free s.toStation hissued, hwork hissued, ← hp]
    refine ⟨fun cmd h => decideStep_keeps _ cmd h, fun hready hidle hasks => ?_, fun hready => ?_⟩
    · rw [decideStep_ready _ hready, decideReady_served _ hidle hasks]
      obtain ⟨hserved, hnone⟩ := served_spec p
      refine ⟨served_workAfter _, fun cmd h => ?_, hnone⟩
      obtain ⟨q, hq, hnext, -, hfirst⟩ := hserved cmd h
      exact ⟨q, hq, hnext, hfirst⟩
    · rw [decideStep_ready _ hready]
      exact decideReady_renewStep _

end Sys2Proof.Proofs
end

/-! The frame pulse (R1, R24, R104): a station whose pool lists a channel that a tone runs on. -/
section
namespace Sys2Proof.Machine

/-- A frame's surplus release and standing start come one after the other, in one order or the other (R104). -/
theorem releaseAndStart_cases (s : Station) :
    releaseAndStart s = standingStart (releaseSurplus s) ∨ releaseAndStart s = releaseSurplus (standingStart s) := by
  unfold releaseAndStart
  split
  · split
    · exact .inl rfl
    · exact .inr rfl
  · exact .inl rfl

/-- A tone of plan 5 that one caller hears, its standing mark clear. -/
def plainTone : ToneRecord :=
  { plan := 5, standing := false, listeners := 1, quiet := 512, phase1 := 0, phase2 := 0, inc1 := 0, inc2 := 0,
    mode := .starting, step := 0, remaining := 0, pass := 0, generator := 0 }

/-- A station in SERVING with a pool target of 0 and plan 5 to cover, which runs on channel 0, while the pool lists
channel 0 too. -/
def tonePooled : State :=
  { State.reset with
    port := { Port.fresh with frameCount := 5, timer := some 2 }
    orders := OrderUnit.fresh .serving
    table := { ChannelTable.fresh with holding := (Tbl.fill 48 .none).put 0 (.tone plainTone), pool := [0] }
    tables := { Tables.fresh with standing := [5] } }

/-- The station at the surplus release and the standing start of the frame that a pulse begins there. -/
def tonePooledInFrame : Station :=
  ageBackOff (eachChannel toneFrame (formTarget (storeFrame (stepCountdown (openFrame 6 tonePooled.toStation)))))

/-- The pulse begins frame 6 with no boundary before it, so that nothing is posted and nothing returned. -/
theorem framePulse_tonePooled : framePulse false false tonePooled.toStation =
    { playAll (drainCheck (claim (releaseAndStart tonePooledInFrame))) with draw := 2 } := by rfl

/-- Whichever of the release and the start comes first, the newest pool channel is released: channel 0, with its
tone. -/
theorem framePulse_tonePooled_outcome :
    (framePulse false false tonePooled.toStation).table.holding.get 0 = .none
      ∧ (framePulse false false tonePooled.toStation).orders.state = .serving := by
  rw [framePulse_tonePooled]
  rcases releaseAndStart_cases tonePooledInFrame with h | h <;> rw [h] <;> decide +kernel

theorem tonePooled_tone (c : Channel) (r : ToneRecord) (h : tonePooled.table.holding.get c = .tone r) :
    c = 0 ∧ r = plainTone := by
  by_cases hc : c = 0
  · subst hc
    exact ⟨rfl, (Holding.tone.inj (h.symm.trans (Tbl.get_put_same _ _ _)))⟩
  · have : tonePooled.table.holding.get c = .none := by
      simp [tonePooled, Ne.symm hc]
    rw [this] at h
    cases h

end Sys2Proof.Machine

namespace Sys2Proof.Proofs
open Sys2Proof Sys2Proof.Machine

/-- Refutes O4: the statement takes every state, also one whose pool lists a channel held as TONE. There the surplus
release (R24) gives up the channel whose tone the standing start (R104) is to mark, so that it ends in NONE, where
`TableFrame.startMarked` has it TONE. -/
theorem not_framePulseBeginsAFrame : ¬ Obligations.FramePulseBeginsAFrame := by
  intro h
  have haccepted : pulseAccepted tonePooled := by
    intro n hn
    cases hn
    decide
  obtain ⟨u, t, hexec, hstay, -, -, -, -, -, -, -, -, -, -, -, -, -, -, -, -, -, -, -, htable, -⟩ :=
    (h false false tonePooled).2 haccepted
  obtain rfl : u = tonePooled := hstay rfl rfl
  obtain rfl : t = { tonePooled with toStation := framePulse false false tonePooled.toStation } :=
    State.run_next _ _ _ hexec
  obtain ⟨hnone, hserving⟩ := framePulse_tonePooled_outcome
  have hreturned : noneReturned false tonePooled := by
    rintro (hb | hb)
    · cases hb
    · exact absurd hb (by decide)
  have hcover : firstToCover tonePooled 5 := by
    refine ⟨[], [], rfl, by simp, ?_⟩
    rintro ⟨c, r, hr, -, hstanding⟩
    rw [(tonePooled_tone c r hr).2] at hstanding
    cases hstanding
  obtain ⟨-, -, q, hq, -⟩ := htable.startMarked hreturned hserving 5 0 plainTone hcover (Tbl.get_put_same _ _ _) rfl
    fun d hd => absurd hd (Nat.not_lt_zero _)
  rw [show ({ tonePooled with toStation := framePulse false false tonePooled.toStation } : State).table.holding.get 0
    = .none from hnone] at hq
  cases hq

end Sys2Proof.Proofs
end

/-! Where channels are held (section 3.3, R51, R106): the condition on the station alone, and how a part of the station
that changes keeps it. -/
section
namespace Sys2Proof.Machine

/-- The station may hold channels: `mayHold` of the station alone. -/
def Station.OnDuty (s : Station) : Prop :=
  (s.orders.state = .serving ∨ s.orders.state = .draining) ∧ s.orders.countdown = none

/-- The station holds, claims and records nothing, and in the halt countdown it is stopped with its pool empty. -/
structure Station.Idle (s : Station) : Prop where
  holding : ∀ c, s.table.holding.get c = .none
  claimed : s.table.claimed = none
  recorder : s.recorder = none
  countdown : s.orders.countdown ≠ none → s.table.stopped = true ∧ s.table.pool = []

/-- Outside the halt countdown the pool is bound to no condition, so `holdingOk` has these two cases. -/
def Station.HoldsSoundly (s : Station) : Prop := s.OnDuty ∨ s.Idle

theorem holdingOk_iff (s : State) : holdingOk s ↔ s.toStation.HoldsSoundly := by
  refine ⟨fun ⟨hstopped, hheld⟩ => ?_, fun h => ?_⟩
  · exact hheld.imp id fun ⟨hnone, hclaimed, hrecorder⟩ => ⟨hnone, hclaimed, hrecorder, hstopped⟩
  · rcases h with hduty | hidle
    · exact ⟨fun hc => absurd hduty.2 hc, .inl hduty⟩
    · exact ⟨hidle.countdown, .inr ⟨hidle.holding, hidle.claimed, hidle.recorder⟩⟩

section
variable {s t : Station}

theorem Station.OnDuty.next (h : s.OnDuty) (hstate : t.orders.state = s.orders.state)
    (hcount : t.orders.countdown = s.orders.countdown) : t.OnDuty := by
  rwa [OnDuty, hstate, hcount]

theorem Station.Idle.next (h : s.Idle) (htable : t.table = s.table) (hrecorder : t.recorder = s.recorder)
    (hcount : t.orders.countdown ≠ none → s.orders.countdown ≠ none) : t.Idle := by
  refine ⟨?_, ?_, ?_, ?_⟩
  · rw [htable]; exact h.holding
  · rw [htable]; exact h.claimed
  · rw [hrecorder]; exact h.recorder
  · rw [htable]; exact fun hc => h.countdown (hcount hc)

/-- An event that leaves the station state and the countdown, and by which an idle station stays idle. -/
theorem Station.HoldsSoundly.next (h : s.HoldsSoundly) (hstate : t.orders.state = s.orders.state)
    (hcount : t.orders.countdown = s.orders.countdown) (hidle : s.Idle → t.Idle) : t.HoldsSoundly :=
  h.imp (fun hduty => hduty.next hstate hcount) hidle

/-- An event that touches neither the table nor the recorder, nor the station state nor the countdown. -/
theorem Station.HoldsSoundly.same (h : s.HoldsSoundly) (hstate : t.orders.state = s.orders.state)
    (hcount : t.orders.countdown = s.orders.countdown) (htable : t.table = s.table)
    (hrecorder : t.recorder = s.recorder) : t.HoldsSoundly :=
  h.next hstate hcount fun hidle => hidle.next htable hrecorder fun hc => hcount ▸ hc

theorem Station.HoldsSoundly.idle_of_state (h : s.HoldsSoundly) (hserving : s.orders.state ≠ .serving)
    (hdraining : s.orders.state ≠ .draining) : s.Idle :=
  h.resolve_left fun hduty => hduty.1.elim hserving hdraining

theorem Station.HoldsSoundly.idle_of_countdown (h : s.HoldsSoundly) (hcount : s.orders.countdown ≠ none) : s.Idle :=
  h.resolve_left fun hduty => hcount hduty.2

/-- A part of the station that an event leaves, it leaves whether or not the event is due. -/
theorem whenDue_leaves {β : Type} (part : Station → β) (due : Bool) (f : Station → Station) (s : Station)
    (hf : part (f s) = part s) : part (whenDue due f s) = part s :=
  whenDue_keeps (fun t => part t = part s) due f s (fun _ _ => hf) rfl

theorem Station.Idle.whenDue (h : s.Idle) (due : Bool) {f : Station → Station}
    (hf : due = true → s.Idle → (f s).Idle) : (Machine.whenDue due f s).Idle := whenDue_keeps Station.Idle due f s hf h

theorem Station.HoldsSoundly.whenDue (h : s.HoldsSoundly) (due : Bool) {f : Station → Station}
    (hf : due = true → s.HoldsSoundly → (f s).HoldsSoundly) : (Machine.whenDue due f s).HoldsSoundly :=
  whenDue_keeps Station.HoldsSoundly due f s hf h

end

/-! ### The order unit's own events (R43, R51) -/

/-- An idle station that halts stays idle (R51). -/
theorem Station.Idle.enterHalted {s : Station} (h : s.Idle) : (Machine.enterHalted s).Idle :=
  h.next rfl rfl fun hc => absurd rfl hc

theorem Station.HoldsSoundly.post {s : Station} (h : s.HoldsSoundly) (n : Notice) : (Machine.post n s).HoldsSoundly :=
  h.same (post_state n s) (post_countdown n s) (post_table n s) (post_recorder n s)

theorem Station.HoldsSoundly.postAll {s : Station} (h : s.HoldsSoundly) (ns : List Notice) :
    (Machine.postAll ns s).HoldsSoundly :=
  h.same (postAll_state ns s) (postAll_countdown ns s) (postAll_table ns s) (postAll_recorder ns s)

/-- Where every channel has been dropped, the station is idle but for the countdown's stop (R32). -/
theorem dropAll_idle (s : Station) (h : s.orders.countdown ≠ none → s.table.stopped = true) : (dropAll s).Idle :=
  ⟨fun c => dropAll_holding c s, rfl, rfl, fun hc => ⟨h hc, rfl⟩⟩

/-- A station dropped whole, with the countdown over or not begun, is idle (R51). -/
theorem idle_of_dropAll {s t : Station} (htable : t.table.holding = (dropAll s).table.holding)
    (hclaimed : t.table.claimed = none) (hrecorder : t.recorder = none) (hcount : t.orders.countdown = none) : t.Idle :=
  ⟨fun c => htable ▸ dropAll_holding c s, hclaimed, hrecorder, fun hc => absurd hcount hc⟩

@[simp] theorem clearGrade_orders (s : Station) : (clearGrade s).orders = s.orders := by
  obtain ⟨m, h, -⟩ := clearGrade_changes s
  rw [h]

@[simp] theorem OrderUnit.breakReset_countdown (o : OrderUnit) : o.breakReset.countdown = o.countdown := by
  simp only [OrderUnit.breakReset, OrderUnit.clearNotices]
  split <;> rfl

/-- A pulse loss leaves nothing held, and no countdown (R32, R51). -/
theorem pulseLoss_idle (s : Station) : (pulseLoss s).Idle := by
  cases hc : s.orders.countdown <;> refine idle_of_dropAll (s := clearGrade s) ?_ ?_ ?_ ?_ <;>
    simp [pulseLoss, startLocalFrame, hc, dropAll, ChannelTable.lose, OrderUnit.lose, OrderUnit.clearNotices]

/-- A shelf reset leaves nothing held, and no countdown (R32, R51). -/
theorem shelfReset_idle (s : Station) : (shelfReset s).Idle := by
  cases hc : s.orders.countdown <;> refine idle_of_dropAll (s := clearGrade s) ?_ ?_ ?_ ?_ <;>
    simp [shelfReset, hc, dropAll]

/-- The countdown decreased halts an idle station at most (R51). -/
theorem stepCountdown_idle {s : Station} (h : s.Idle) : (stepCountdown s).Idle := by
  cases hc : s.orders.countdown with
  | none => simpa [stepCountdown, hc] using h
  | some n =>
    have hlower : ({ s with orders := { s.orders with countdown := some (n - 1) } } : Station).Idle :=
      h.next rfl rfl fun _ => by simp [hc]
    simp only [stepCountdown, hc]
    exact hlower.whenDue _ fun _ => Station.Idle.enterHalted

/-- The countdown's end halts an idle station (R51). -/
theorem haltCountdownEnd_holds {s : Station} (h : s.HoldsSoundly) :
    (whenDue (haltDue s) enterHalted s).HoldsSoundly := by
  refine h.whenDue _ fun hdue h => .inr (h.idle_of_countdown ?_).enterHalted
  have : s.orders.countdown = some 0 := by simpa [haltDue] using hdue
  simp [this]

theorem listening_idle {s : Station} (h : s.HoldsSoundly) (hl : s.orders.state = .listening) : s.Idle :=
  h.idle_of_state (by simp [hl]) (by simp [hl])

theorem beginServing_idle {s : Station} (h : s.Idle) : (beginServing s).Idle := h.next rfl rfl id

theorem listeningComplete_holds {s : Station} (h : s.HoldsSoundly) :
    (whenDue (listeningDue s) (fun s => post (stateNotice .serving) (beginServing s)) s).HoldsSoundly := by
  refine h.whenDue _ fun hdue h => Station.HoldsSoundly.post (.inr (beginServing_idle (listening_idle h ?_))) _
  simp only [listeningDue, Bool.and_eq_true, beq_iff_eq] at hdue
  obtain ⟨⟨hlistening, -⟩, -⟩ := hdue
  exact hlistening

/-- The work check takes into RESTING a station that holds nothing, and in DRAINING none is claimed (R45). -/
theorem drainCheck_holds {s : Station} (h : s.HoldsSoundly)
    (hclaim : s.orders.state = .draining → s.table.claimed = none) : (drainCheck s).HoldsSoundly := by
  unfold drainCheck
  split
  · rename_i hdue
    obtain ⟨hstate, hcount, hwork⟩ := hdue
    have hwork' : s.recorder = none ∧ ∀ c, s.table.holding.get c = .none := by
      simp only [hasWork, recorderActive, Bool.or_eq_false_iff, List.any_eq_false, Option.isSome_eq_false_iff,
        Option.isNone_iff_eq_none, Holding.isHeld_iff, not_not, numbers, List.mem_finRange, true_implies] at hwork
      exact hwork
    refine Station.HoldsSoundly.post (.inr ?_) _
    exact ⟨hwork'.2, hclaim hstate, hwork'.1, fun hc => absurd hcount hc⟩
  · exact h

end Sys2Proof.Machine
end

/-! What the channel table's own work keeps of the holdings: returns, claims, releases, owner and sample positions. -/
section
namespace Sys2Proof.Machine

/-! ### Channels returned and lost (R26, R28) -/

theorem returnChannel_leaves {β : Type} (part : Station → β)
    (hpart : ∀ (s : Station) t f, part { s with table := t, formed := f } = part s) (target : Nat) (c : Channel)
    (s : Station) : part (returnChannel target c s) = part s := by
  obtain ⟨t, f, h⟩ := returnChannel_changes target c s
  rw [h, hpart]

@[simp] theorem returnChannel_orders (target : Nat) (c : Channel) (s : Station) :
    (returnChannel target c s).orders = s.orders := returnChannel_leaves Station.orders (fun _ _ _ => rfl) target c s

@[simp] theorem returnChannel_claimed (target : Nat) (c : Channel) (s : Station) :
    (returnChannel target c s).table.claimed = s.table.claimed := by
  simp only [returnChannel]
  split <;> rfl

@[simp] theorem returnAll_orders (target : Nat) (cs : List Channel) (s : Station) :
    (returnAll target cs s).orders = s.orders :=
  foldl_keeps (fun t => t.orders = s.orders) _ cs (fun t c h => (returnChannel_orders target c t).trans h) s rfl

@[simp] theorem returnAll_claimed (target : Nat) (cs : List Channel) (s : Station) :
    (returnAll target cs s).table.claimed = s.table.claimed :=
  foldl_keeps (fun t => t.table.claimed = s.table.claimed) _ cs
    (fun t c h => (returnChannel_claimed target c t).trans h) s rfl

@[simp] theorem loseChannel_state (c : Channel) (n : Nat) (s : Station) :
    (loseChannel c n s).orders.state = s.orders.state := by
  obtain ⟨t, f, e, r, h⟩ := dropChannel_changes c s
  unfold loseChannel
  split <;> simp [h]

@[simp] theorem loseChannel_countdown (c : Channel) (n : Nat) (s : Station) :
    (loseChannel c n s).orders.countdown = s.orders.countdown := by
  obtain ⟨t, f, e, r, h⟩ := dropChannel_changes c s
  unfold loseChannel
  split <;> simp [h]

/-! ### Claims, back-off and release (R21 to R24) -/

@[simp] theorem settleClaim_orders (c : Channel) (won : Bool) (s : Station) :
    (settleClaim c won s).orders = s.orders := by
  obtain ⟨-, -, e⟩ | ⟨-, rest, x, -, -, e⟩ | ⟨-, e⟩ := settleClaim_cases c won s <;> rw [e]

/-- A claim is made in SERVING alone, and not by a stopped station (R21). -/
theorem claim_holds {s : Station} (h : s.HoldsSoundly) : (claim s).HoldsSoundly := by
  unfold claim
  split
  · rename_i hdue
    obtain ⟨hserving, hrunning, -⟩ := hdue
    refine .inl ⟨.inl hserving, ?_⟩
    by_contra hc
    have := ((h.idle_of_countdown hc).countdown hc).1
    simp [hrunning] at this
  · exact h

/-- In DRAINING no claim is made. -/
theorem claim_draining (s : Station) (h : (claim s).orders.state = .draining) : claim s = s := by
  unfold claim at h ⊢
  split
  · rename_i hdue
    rw [if_pos hdue] at h
    exact absurd (hdue.1.symm.trans h) (by decide)
  · rfl

@[simp] theorem releaseNewest_orders (s : Station) : (releaseNewest s).orders = s.orders := by
  obtain ⟨-, h⟩ | ⟨rest, x, -, h⟩ := releaseNewest_cases s <;> rw [h]

@[simp] theorem releaseNewest_claimed (s : Station) : (releaseNewest s).table.claimed = s.table.claimed := by
  obtain ⟨-, h⟩ | ⟨rest, x, -, h⟩ := releaseNewest_cases s <;> rw [h]
  rfl

@[simp] theorem releaseSurplus_orders (s : Station) : (releaseSurplus s).orders = s.orders :=
  whenDue_leaves Station.orders _ _ s (releaseNewest_orders s)

@[simp] theorem releaseSurplus_claimed (s : Station) : (releaseSurplus s).table.claimed = s.table.claimed :=
  whenDue_leaves (fun s => s.table.claimed) _ _ s (releaseNewest_claimed s)

theorem hold_none_get (t : ChannelTable) (c d : Channel) (h : t.holding.get d = .none) :
    (t.hold c .none).holding.get d = .none := by
  by_cases hcd : c = d
  · simp [ChannelTable.hold, hcd]
  · simp [ChannelTable.hold, hcd, h]

theorem releaseNewest_idle {s : Station} (h : s.Idle) : (releaseNewest s).Idle := by
  obtain ⟨-, heq⟩ | ⟨rest, x, hpool, heq⟩ := releaseNewest_cases s <;> rw [heq]
  · exact h
  · refine ⟨fun d => hold_none_get s.table x d (h.holding d), h.claimed, h.recorder, fun hc => ?_⟩
    simp [(h.countdown hc).2] at hpool

theorem releaseSurplus_holds {s : Station} (h : s.HoldsSoundly) : (releaseSurplus s).HoldsSoundly :=
  h.whenDue _ fun _ h => h.next (by simp) (by simp) releaseNewest_idle

theorem ageBackOff_holds {s : Station} (h : s.HoldsSoundly) : (ageBackOff s).HoldsSoundly :=
  h.next rfl rfl fun hidle => ⟨hidle.holding, hidle.claimed, hidle.recorder, hidle.countdown⟩

theorem ageBackOff_claimed (s : Station) : (ageBackOff s).table.claimed = s.table.claimed := rfl

theorem removeBackOff_holds {s : Station} (h : s.HoldsSoundly) (c : Channel) : (removeBackOff c s).HoldsSoundly :=
  h.next rfl rfl fun hidle => ⟨hidle.holding, hidle.claimed, hidle.recorder, hidle.countdown⟩

/-! ### Owner positions (R19, R22, R28, R30) -/

/-- A duplicate identity leaves nothing held, the station stopped and its pool empty (R30). -/
theorem duplicateIdentity_idle (c : Channel) (s : Station) : (duplicateIdentity c s).Idle := by
  refine ⟨fun d => ?_, ?_, ?_, fun _ => ⟨?_, ?_⟩⟩ <;> simp [duplicateIdentity, dropAll]

/-- An idle station drives its code on no channel (R19). -/
theorem Station.Idle.drivesOwner {s : Station} (h : s.Idle) (c : Channel) : Machine.drivesOwner s c = false := by
  simp [Machine.drivesOwner, h.holding c, h.claimed, Holding.isHeld]

theorem readOwner_holds {s : Station} (h : s.HoldsSoundly) (c : Channel) (driven : Option OwnerCode) (read : OwnerCode) :
    (readOwner c driven read s).HoldsSoundly :=
  h.next rfl rfl fun hidle => ⟨hidle.holding, hidle.claimed, hidle.recorder, hidle.countdown⟩

/-- Only a station on duty drives an owner position, so only there is a channel won or lost; a duplicate identity
leaves the station idle (R19, R22, R28, R30). -/
theorem ownerPosition_holds {s : Station} (h : s.HoldsSoundly) (c : Channel) (others : List OwnerCode) :
    (ownerPosition c others s).HoldsSoundly := by
  have driven_next : ∀ t : Station, drivesOwner s c = true → t.orders.state = s.orders.state →
      t.orders.countdown = s.orders.countdown → t.HoldsSoundly := fun t hdrives hstate hcount =>
    h.next hstate hcount fun hidle => by simp [hidle.drivesOwner c] at hdrives
  simp only [ownerPosition]
  split
  · rename_i hdrives
    split
    · exact driven_next _ hdrives (by simp) (by simp)
    · split
      · exact readOwner_holds h _ _ _
      · exact driven_next _ hdrives (by simp) (by simp)
  · split
    · exact .inr (duplicateIdentity_idle _ _)
    · exact readOwner_holds h _ _ _

/-! ### Sample positions (R11, R12, R29) -/

/-- Only a TONE or CYCLE channel is surrendered (R29). -/
theorem Station.Idle.contentionDue {s : Station} (h : s.Idle) (c : Channel) : Machine.contentionDue c s = false := by
  simp [Machine.contentionDue, h.holding c, Holding.isTone, Holding.isCycle]

theorem surrender_holds {s : Station} (h : s.HoldsSoundly) (c : Channel) :
    (whenDue (contentionDue c s) (surrender c) s).HoldsSoundly :=
  h.whenDue _ fun hdue h => h.next (loseChannel_state c 15 s) (loseChannel_countdown c 15 s) fun hidle => by
    simp [hidle.contentionDue c] at hdue

theorem contentionEvent_holds {s : Station} (h : s.HoldsSoundly) (c : Channel) : (contentionEvent c s).HoldsSoundly :=
  surrender_holds (s := { s with table := { s.table with
    contention := s.table.contention.put c (s.table.contention.get c + 1) } })
    (h.next rfl rfl fun hidle => ⟨hidle.holding, hidle.claimed, hidle.recorder, hidle.countdown⟩) c

/-- An event of the recorder alone, which an idle station, having no recording, does not see. -/
theorem Station.HoldsSoundly.recording {s : Station} (h : s.HoldsSoundly) {f : Station → Station}
    (hstate : (f s).orders.state = s.orders.state) (hcount : (f s).orders.countdown = s.orders.countdown)
    (hnone : s.recorder = none → f s = s) : (f s).HoldsSoundly :=
  h.next hstate hcount fun hidle => by rwa [hnone hidle.recorder]

theorem startCapture_holds {s : Station} (h : s.HoldsSoundly) : (startCapture s).HoldsSoundly := by
  refine h.recording ?_ ?_ fun hr => by simp [startCapture, hr]
  all_goals cases hr : s.recorder <;> simp [startCapture, hr]

theorem stopCapture_holds {s : Station} (h : s.HoldsSoundly) : (stopCapture s).HoldsSoundly := by
  refine h.recording ?_ ?_ fun hr => by simp [stopCapture, hr]
  all_goals cases hr : s.recorder <;> simp [stopCapture, hr]

/-- A recording replaced by another is a recording still. -/
theorem replaceRecording_holds {s : Station} (h : s.HoldsSoundly) (r q : Recording) (hr : s.recorder = some r) :
    ({ s with recorder := some q } : Station).HoldsSoundly :=
  h.next rfl rfl fun hidle => by simp [hidle.recorder] at hr

theorem recorderSample_holds {s : Station} (h : s.HoldsSoundly) (k : Code) : (recorderSample k s).HoldsSoundly := by
  unfold recorderSample
  split
  · exact h
  · rename_i r hr
    dsimp only
    split
    · split
      · exact (replaceRecording_holds h r _ hr).whenDue _ fun _ => startCapture_holds
      · exact h
    · exact ((replaceRecording_holds h r _ hr).whenDue _ fun _ => stopCapture_holds).whenDue _ fun _ => stopCapture_holds
    · exact h

theorem samplePosition_holds {s : Station} (h : s.HoldsSoundly) (c : Channel) (others : Code) :
    (samplePosition c others s).HoldsSoundly := by
  have hpass : ∀ driven, ({ s with port := { s.port with
      sampleNext := c.val + 1, sampleOut := s.port.sampleOut.put c driven } } : Station).HoldsSoundly :=
    fun _ => h.same rfl rfl rfl rfl
  exact ((hpass _).whenDue _ fun _ h => contentionEvent_holds h c).whenDue _ fun _ h => recorderSample_holds h _

end Sys2Proof.Machine
end

/-! What tone and cycle work keeps of the holdings: a channel that is not held has no work, and no work of a channel
touches the order unit (chapters 5 and 6). -/
section
namespace Sys2Proof.Machine

/-! ### Work (R52, R74) -/

/-- Boundary work that gives channels back is done on duty alone. -/
def Work.HoldsSoundly (w : Work) : Prop := w.station.OnDuty ∨ (w.station.Idle ∧ w.returned = [])

theorem Work.begin_holds {s : Station} (h : s.HoldsSoundly) : (Work.begin s).HoldsSoundly :=
  h.imp id fun hidle => ⟨hidle, rfl⟩

theorem Work.HoldsSoundly.station_holds {w : Work} (h : w.HoldsSoundly) : w.station.HoldsSoundly := h.imp id And.left

/-- Work on a channel that leaves the order unit, and has nothing to do where the channel is not held. -/
theorem Work.HoldsSoundly.channel {w v : Work} (h : w.HoldsSoundly) (c : Channel)
    (horders : v.station.orders = w.station.orders) (hnone : w.station.table.holding.get c = .none → v = w) :
    v.HoldsSoundly := by
  rcases h with hduty | hidle
  · exact .inl (hduty.next (by rw [horders]) (by rw [horders]))
  · rw [hnone (hidle.1.holding c)]
    exact .inr hidle

/-- Work that changes neither the station state nor the countdown, nor what an idle station is, nor the returns. -/
theorem Work.HoldsSoundly.next {w v : Work} (h : w.HoldsSoundly)
    (hstate : v.station.orders.state = w.station.orders.state)
    (hcount : v.station.orders.countdown = w.station.orders.countdown)
    (hidle : w.station.Idle → v.station.Idle) (hreturned : v.returned = w.returned) : v.HoldsSoundly :=
  h.imp (fun hduty => hduty.next hstate hcount) fun ⟨hi, hr⟩ => ⟨hidle hi, hreturned.trans hr⟩

/-- Channels are given back to a station on duty; an idle one is given none (R26). -/
theorem returnAll_holds {s : Station} (target : Nat) (cs : List Channel) (h : s.OnDuty ∨ (s.Idle ∧ cs = [])) :
    (returnAll target cs s).HoldsSoundly := by
  rcases h with hduty | ⟨hidle, rfl⟩
  · exact .inl (hduty.next (by simp) (by simp))
  · exact .inr hidle

@[simp] theorem Work.finish_state (w : Work) : w.finish.orders.state = w.station.orders.state := by simp [Work.finish]

@[simp] theorem Work.finish_countdown (w : Work) : w.finish.orders.countdown = w.station.orders.countdown := by
  simp [Work.finish]

theorem Work.HoldsSoundly.finish {w : Work} (h : w.HoldsSoundly) : w.finish.HoldsSoundly := by
  refine returnAll_holds _ _ (h.imp (fun hduty => hduty.next (by simp) (by simp)) fun ⟨hidle, hr⟩ => ⟨?_, hr⟩)
  exact hidle.next (by simp) (by simp) (by simp)

/-- An event of one channel, which leaves the order unit and does nothing where the channel is not held. -/
theorem Station.HoldsSoundly.channel {s t : Station} (h : s.HoldsSoundly) (c : Channel)
    (hstate : t.orders.state = s.orders.state) (hcount : t.orders.countdown = s.orders.countdown)
    (hnone : s.table.holding.get c = .none → t = s) : t.HoldsSoundly :=
  h.next hstate hcount fun hidle => by rwa [hnone (hidle.holding c)]

/-! ### Tone channels (R95 to R105) -/

@[simp] theorem stepToneQuiet_orders (c : Channel) (s : Station) : (stepToneQuiet c s).orders = s.orders := by
  unfold stepToneQuiet; split <;> rfl

@[simp] theorem toneCadence_orders (c : Channel) (s : Station) : (toneCadence c s).orders = s.orders := by
  unfold toneCadence; split <;> rfl

@[simp] theorem expireTone_orders (c : Channel) (w : Work) : (expireTone c w).station.orders = w.station.orders := by
  unfold expireTone
  split
  · dsimp only; split <;> rfl
  · rfl

@[simp] theorem toneBoundary_orders (c : Channel) (w : Work) : (toneBoundary c w).station.orders = w.station.orders := by
  simp only [toneBoundary]
  split <;> simp

theorem toneBoundary_none (c : Channel) (w : Work) (h : w.station.table.holding.get c = .none) :
    toneBoundary c w = w := by
  simp [toneBoundary, stepToneQuiet, toneQuietDue, toneCadence, h]

theorem toneBoundary_holds (c : Channel) (w : Work) (h : w.HoldsSoundly) : (toneBoundary c w).HoldsSoundly :=
  h.channel c (toneBoundary_orders c w) (toneBoundary_none c w)

@[simp] theorem toneFrame_orders (c : Channel) (s : Station) : (toneFrame c s).orders = s.orders := by
  unfold toneFrame; split <;> rfl

@[simp] theorem toneFrame_claimed (c : Channel) (s : Station) : (toneFrame c s).table.claimed = s.table.claimed := by
  unfold toneFrame; split <;> rfl

theorem toneFrame_holds (c : Channel) (s : Station) (h : s.HoldsSoundly) : (toneFrame c s).HoldsSoundly :=
  h.channel c (by simp) (by simp) fun hnone => by simp [toneFrame, hnone]

theorem expireStep_holds {s : Station} (h : s.HoldsSoundly) (c : Channel) : (expireStep c s).HoldsSoundly := by
  have horders : (expireStep c s).orders = s.orders := by unfold expireStep; split <;> rfl
  exact h.channel c (by rw [horders]) (by rw [horders]) fun hnone => by simp [expireStep, hnone]

theorem expireTone_holds {s : Station} (h : s.HoldsSoundly) (c : Channel) :
    (expireTone c (Work.begin s)).finish.HoldsSoundly :=
  ((Work.begin_holds h).channel c (expireTone_orders c _) fun hnone => by simp [expireTone, hnone]).finish

theorem toneLeave_holds {s : Station} (h : s.HoldsSoundly) (c : Channel) : (toneLeave c s).HoldsSoundly := by
  have hduty : (toneLeave c s).orders.state = s.orders.state ∧ (toneLeave c s).orders.countdown = s.orders.countdown := by
    unfold toneLeave
    split
    · split
      · exact ⟨rfl, rfl⟩
      · dsimp only
        split
        · exact ⟨Work.finish_state _, Work.finish_countdown _⟩
        · exact ⟨rfl, rfl⟩
    · exact ⟨rfl, rfl⟩
  exact h.channel c hduty.1 hduty.2 fun hnone => by simp [toneLeave, hnone]

@[simp] theorem markStanding_orders (c : Channel) (mark : Bool) (s : Station) :
    (markStanding c mark s).orders = s.orders := by
  unfold markStanding; split <;> rfl

@[simp] theorem markStanding_claimed (c : Channel) (mark : Bool) (s : Station) :
    (markStanding c mark s).table.claimed = s.table.claimed := by
  unfold markStanding; split <;> rfl

@[simp] theorem coverPlan_orders (plan : Nat) (s : Station) : (coverPlan plan s).orders = s.orders := by
  unfold coverPlan
  split
  · simp
  · split
    · split <;> simp
    · rfl

@[simp] theorem coverPlan_claimed (plan : Nat) (s : Station) :
    (coverPlan plan s).table.claimed = s.table.claimed := by
  unfold coverPlan
  split
  · simp
  · split
    · split <;> rfl
    · rfl

@[simp] theorem standingStart_orders (s : Station) : (standingStart s).orders = s.orders := by
  unfold standingStart
  split
  · split <;> simp
  · rfl

@[simp] theorem standingStart_claimed (s : Station) : (standingStart s).table.claimed = s.table.claimed := by
  unfold standingStart
  split
  · split <;> simp
  · rfl

/-- In the halt countdown an idle station has no tone to mark and no pool channel to start one on (R104). -/
theorem coverPlan_idle {s : Station} (h : s.Idle) (hcount : s.orders.countdown ≠ none) (plan : Nat) :
    coverPlan plan s = s := by
  have hnone : ((numbers 48).find? fun c => (s.table.holding.get c).runs plan false) = none :=
    List.find?_eq_none.mpr fun c _ => by simp [h.holding c, Holding.runs]
  simp only [coverPlan, hnone, (h.countdown hcount).2]
  cases freeGenerator s <;> rfl

/-- A standing tone starts in SERVING, outside the halt countdown (R104). -/
theorem standingStart_holds {s : Station} (h : s.HoldsSoundly) : (standingStart s).HoldsSoundly := by
  unfold standingStart
  split
  · rename_i hserving
    split
    · rename_i plan _
      by_cases hcount : s.orders.countdown = none
      · exact .inl (Station.OnDuty.next ⟨.inl hserving, hcount⟩ (by simp) (by simp))
      · rwa [coverPlan_idle (h.idle_of_countdown hcount) hcount]
    · exact h
  · exact h

theorem releaseAndStart_holds {s : Station} (h : s.HoldsSoundly) : (releaseAndStart s).HoldsSoundly := by
  rcases releaseAndStart_cases s with heq | heq <;> rw [heq]
  · exact standingStart_holds (releaseSurplus_holds h)
  · exact releaseSurplus_holds (standingStart_holds h)

@[simp] theorem releaseAndStart_claimed (s : Station) : (releaseAndStart s).table.claimed = s.table.claimed := by
  rcases releaseAndStart_cases s with heq | heq <;> simp [heq]

theorem drainStanding_holds (c : Channel) (s : Station) (h : s.HoldsSoundly) : (drainStanding c s).HoldsSoundly := by
  have horders : (drainStanding c s).orders = s.orders := by
    unfold drainStanding
    split
    · split
      · split <;> simp
      · rfl
    · rfl
  exact h.channel c (by rw [horders]) (by rw [horders]) fun hnone => by simp [drainStanding, hnone]

/-! ### Cycle channels (R74 to R89) -/

@[simp] theorem stepCycleQuiet_orders (c : Channel) (s : Station) : (stepCycleQuiet c s).orders = s.orders := by
  unfold stepCycleQuiet; split <;> rfl

@[simp] theorem stepCycleT_orders (c : Channel) (s : Station) : (stepCycleT c s).orders = s.orders := by
  unfold stepCycleT; split <;> rfl

@[simp] theorem nextSuperframe_orders (c : Channel) (s : Station) : (nextSuperframe c s).orders = s.orders := by
  unfold nextSuperframe
  split
  · split <;> rfl
  · rfl

@[simp] theorem endCycle_orders (c : Channel) (w : Work) : (endCycle c w).station.orders = w.station.orders := by
  unfold endCycle; split <;> rfl

@[simp] theorem startCycle_orders (c : Channel) (w : Work) : (startCycle c w).station.orders = w.station.orders := by
  unfold startCycle
  split
  · split <;> simp
  · rfl

@[simp] theorem engineAudioEnd_orders (r : CycleRecord) (s : Station) : (engineAudioEnd r s).orders = s.orders := by
  unfold engineAudioEnd; split <;> rfl

@[simp] theorem endAudio_orders (c : Channel) (w : Work) : (endAudio c w).station.orders = w.station.orders := by
  unfold endAudio
  split
  · split
    · simp
    · dsimp only; split <;> simp
  · rfl

@[simp] theorem expireCycle_orders (c : Channel) (w : Work) : (expireCycle c w).station.orders = w.station.orders := by
  unfold expireCycle; split <;> rfl

@[simp] theorem cycleBoundary_orders (c : Channel) (w : Work) :
    (cycleBoundary c w).station.orders = w.station.orders := by
  have hends : ∀ v : Work, (if audioEndDue c v.station then endAudio c v else if startDue c v.station then startCycle c v
      else { v with station := nextSuperframe c v.station }).station.orders = v.station.orders := by
    intro v
    split
    · simp
    · split <;> simp
  refine (hends _).trans ((stepCycleT_orders c _).trans ?_)
  split <;> simp

theorem cycleBoundary_none (c : Channel) (w : Work) (h : w.station.table.holding.get c = .none) :
    cycleBoundary c w = w := by
  simp [cycleBoundary, stepCycleQuiet, cycleQuietDue, stepCycleT, audioEndDue, startDue, nextSuperframe, h]

theorem cycleBoundary_holds (c : Channel) (w : Work) (h : w.HoldsSoundly) : (cycleBoundary c w).HoldsSoundly :=
  h.channel c (cycleBoundary_orders c w) (cycleBoundary_none c w)

theorem expireCycle_holds {s : Station} (h : s.HoldsSoundly) (c : Channel) :
    (expireCycle c (Work.begin s)).finish.HoldsSoundly :=
  ((Work.begin_holds h).channel c (expireCycle_orders c _) fun hnone => by simp [expireCycle, hnone]).finish

theorem endAudio_holds {s : Station} (h : s.HoldsSoundly) (c : Channel) :
    (endAudio c (Work.begin s)).finish.HoldsSoundly :=
  ((Work.begin_holds h).channel c (endAudio_orders c _) fun hnone => by simp [endAudio, hnone]).finish

theorem startCycle_holds {s : Station} (h : s.HoldsSoundly) (c : Channel) :
    (startCycle c (Work.begin s)).finish.HoldsSoundly :=
  ((Work.begin_holds h).channel c (startCycle_orders c _) fun hnone => by simp [startCycle, hnone]).finish

@[simp] theorem playFrame_orders (c : Channel) (w : Work) : (playFrame c w).station.orders = w.station.orders := by
  unfold playFrame
  dsimp only
  split
  · split
    · split
      · rfl
      · split
        · rfl
        · exact whenDue_leaves Station.orders _ _ _ rfl
    · rfl
  · rfl

theorem playFrame_holds (c : Channel) (w : Work) (h : w.HoldsSoundly) : (playFrame c w).HoldsSoundly :=
  h.channel c (playFrame_orders c w) fun hnone => by simp [playFrame, hnone]

theorem cycleLeave_holds {s : Station} (h : s.HoldsSoundly) (c : Channel) (tag : BitVec 8) :
    (cycleLeave c tag s).HoldsSoundly := by
  have horders : (cycleLeave c tag s).orders = s.orders := by unfold cycleLeave; split <;> rfl
  exact h.channel c (by rw [horders]) (by rw [horders]) fun hnone => by simp [cycleLeave, hnone]

end Sys2Proof.Machine
end

/-! What a frame pulse and a store step keep of the holdings. -/
section
namespace Sys2Proof.Machine

/-! ### The boundary and the frame (R2, R6, R20, R43, R45, R51) -/

/-- The monitor leaves the order unit, the table, the recorder and the returns. -/
theorem monitorBoundary_changes (w : Work) : ∃ m ps, monitorBoundary w =
    { w with station := { w.station with monitor := m }, posts := ps } := by
  unfold monitorBoundary
  dsimp only
  split
  · exact ⟨_, _, rfl⟩
  · exact ⟨w.station.monitor, w.posts, rfl⟩

theorem monitorBoundary_holds {w : Work} (h : w.HoldsSoundly) : (monitorBoundary w).HoldsSoundly := by
  obtain ⟨m, ps, heq⟩ := monitorBoundary_changes w
  rw [heq]
  exact h.next rfl rfl (fun hidle => hidle.next rfl rfl id) rfl

/-- LISTENING holds nothing, and its sixteenth boundary holds nothing yet (R43). -/
theorem listeningBoundary_holds {w : Work} (h : w.HoldsSoundly) : (listeningBoundary w).HoldsSoundly := by
  unfold listeningBoundary
  dsimp only
  split
  · rename_i hdue
    have hnone : w.station.Idle ∧ w.returned = [] :=
      h.resolve_left fun hduty => by simp [Station.OnDuty, hdue.1] at hduty
    split
    · exact .inr ⟨hnone.1.next rfl rfl id, hnone.2⟩
    · exact .inr ⟨hnone.1.next rfl rfl id, hnone.2⟩
  · exact h

theorem startSearch_work_holds {w : Work} (h : w.HoldsSoundly) :
    Work.HoldsSoundly { w with station := startSearch w.station } := by
  rcases h with hduty | ⟨hidle, hreturned⟩
  · refine .inl (hduty.next ?_ ?_)
    all_goals cases hr : w.station.recorder <;> simp [startSearch, hr]
  · refine .inr ⟨?_, hreturned⟩
    rwa [startSearch, hidle.recorder]

theorem boundaryWork_holds {s : Station} (h : s.HoldsSoundly) (resumed : Bool) : (boundaryWork resumed s).HoldsSoundly := by
  have hbegin : (Work.begin { s with table := s.table.atBoundary }).HoldsSoundly :=
    Work.begin_holds (h.next rfl rfl fun hidle => ⟨hidle.holding, hidle.claimed, hidle.recorder, hidle.countdown⟩)
  have hchannels := eachChannel_keeps Work.HoldsSoundly cycleBoundary cycleBoundary_holds _
    (eachChannel_keeps Work.HoldsSoundly toneBoundary toneBoundary_holds _ hbegin)
  have hsearch := startSearch_work_holds (monitorBoundary_holds hchannels)
  unfold boundaryWork
  dsimp only
  split
  · exact hsearch
  · exact listeningBoundary_holds hsearch

theorem boundaryBefore_holds {s : Station} (h : s.HoldsSoundly) (isBoundary resumed : Bool) :
    (boundaryBefore isBoundary resumed s).HoldsSoundly := by
  unfold boundaryBefore
  split
  · exact boundaryWork_holds h resumed
  · exact Work.begin_holds h

/-- An ISOLATED station holds nothing when the pulse resumes (R6, R49). -/
theorem resume_holds {s : Station} (h : s.HoldsSoundly) : (whenDue (resumes s) resume s).HoldsSoundly := by
  refine h.whenDue _ fun hdue h => .inr ?_
  have hstate : s.orders.state = .isolated := by
    simp only [resumes, Bool.and_eq_true, beq_iff_eq] at hdue
    exact hdue.2
  exact (h.idle_of_state (by simp [hstate]) (by simp [hstate])).next rfl rfl id

theorem Station.HoldsSoundly.draw {s : Station} (h : s.HoldsSoundly) (n : Nat) :
    ({ s with draw := n } : Station).HoldsSoundly := h.same rfl rfl rfl rfl

/-- The start of a frame, up to the returns: a station on duty stays on duty, an idle one idle, and no claim of the frame
before stands (R22, R51). -/
def startFrame (number : Nat) (s : Station) : Station := formTarget (storeFrame (stepCountdown (openFrame number s)))

theorem startFrame_onDuty {s : Station} (h : s.OnDuty) (number : Nat) : (startFrame number s).OnDuty := by
  have hopen : (openFrame number s).OnDuty := h
  have hstep : stepCountdown (openFrame number s) = openFrame number s := by simp only [stepCountdown, hopen.2]
  exact hopen.next (by simp [startFrame, formTarget, hstep]) (by simp [startFrame, formTarget, hstep])

theorem openFrame_idle {s : Station} (h : s.Idle) (number : Nat) : (openFrame number s).Idle :=
  ⟨h.holding, rfl, h.recorder, h.countdown⟩

theorem formTarget_idle {s : Station} (h : s.Idle) : (formTarget s).Idle :=
  ⟨h.holding, h.claimed, h.recorder, h.countdown⟩

theorem startFrame_idle {s : Station} (h : s.Idle) (number : Nat) : (startFrame number s).Idle :=
  formTarget_idle ((stepCountdown_idle (openFrame_idle h number)).next (by simp) (by simp) (by simp))

@[simp] theorem stepCountdown_table (s : Station) : (stepCountdown s).table = s.table := by
  unfold stepCountdown
  split
  · rfl
  · exact whenDue_leaves Station.table _ _ _ rfl

theorem startFrame_claimed (number : Nat) (s : Station) : (startFrame number s).table.claimed = none := by
  simp [startFrame, formTarget, openFrame]

/-- A frame's own work: claims are made in SERVING, and the work check in DRAINING finds none (R21, R45). -/
theorem frameWork_holds {s : Station} (h : s.HoldsSoundly) (hclaimed : s.table.claimed = none) :
    (frameWork s).HoldsSoundly := by
  have htones := eachChannel_keeps Station.HoldsSoundly toneFrame toneFrame_holds s h
  have htones_claimed : (eachChannel toneFrame s).table.claimed = none :=
    (eachChannel_leaves (fun s : Station => s.table.claimed) toneFrame toneFrame_claimed s).trans hclaimed
  have hstart := releaseAndStart_holds (ageBackOff_holds htones)
  unfold frameWork
  refine drainCheck_holds (claim_holds hstart) fun hdraining => ?_
  rw [claim_draining _ hdraining, releaseAndStart_claimed, ageBackOff_claimed, htones_claimed]

theorem playAll_holds {s : Station} (h : s.HoldsSoundly) : (playAll s).HoldsSoundly :=
  (eachChannel_keeps Work.HoldsSoundly playFrame playFrame_holds _ (Work.begin_holds h)).station_holds.postAll _

theorem shuffle_nil {α : Type} (order : Nat → Nat → Nat) (draw : Nat) : shuffle order draw ([] : List α) = [] := rfl

/-- What the boundary gathered is returned on duty alone, and the frame's work follows. -/
theorem acceptPulse_holds {s : Station} (h : s.HoldsSoundly) (long : Bool) : (acceptPulse long s).HoldsSoundly := by
  have frame_holds : ∀ (w : Work) (number : Nat) (ps : List Notice), w.HoldsSoundly →
      (playAll (frameWork (returnAll (startFrame number (postAll ps w.station)).table.target
        (shuffle Config.returnOrder s.draw w.returned) (startFrame number (postAll ps w.station))))).HoldsSoundly := by
    intro w number ps hw
    refine playAll_holds (frameWork_holds (returnAll_holds _ _ ?_) ?_)
    · refine hw.imp (fun hduty => startFrame_onDuty (hduty.next (by simp) (by simp)) number) fun ⟨hidle, hreturned⟩ => ?_
      exact ⟨startFrame_idle (hidle.next (by simp) (by simp) (by simp)) number, by rw [hreturned, shuffle_nil]⟩
    · rw [returnAll_claimed]
      exact startFrame_claimed number _
  unfold acceptPulse
  dsimp only
  exact (frame_holds _ _ _ (boundaryBefore_holds (resume_holds h) _ _)).draw _

end Sys2Proof.Machine
end

/-! What a store step and the loader keep of the holdings. -/
section
namespace Sys2Proof.Machine

/-! ### The loader (R171 to R176) -/

/-- A load's end leaves the table, the recorder and the countdown (R42, R176). -/
theorem endLoading_idle {s : Station} (h : s.Idle) : (endLoading s).Idle := by
  refine h.next rfl rfl fun hc => ?_
  simp only [endLoading] at hc
  split at hc <;> exact hc

theorem loading_idle {s : Station} (h : s.HoldsSoundly) (hl : s.orders.state = .loading) : s.Idle :=
  h.idle_of_state (by simp [hl]) (by simp [hl])

theorem loaderReady_holds {s : Station} (h : s.HoldsSoundly) : (loaderReady s).HoldsSoundly := by
  unfold loaderReady
  split
  · rename_i hdue
    simp only [Bool.and_eq_true, decide_eq_true_eq] at hdue
    obtain ⟨⟨⟨hloading, -⟩, -⟩, -⟩ := hdue
    exact .inr (endLoading_idle (loading_idle h hloading))
  · exact h

theorem loaderPut_idle {s : Station} (h : s.Idle) : (loaderPut s).Idle := by
  unfold loaderPut
  split
  · exact h
  · dsimp only
    split
    · exact h.next rfl rfl id
    · exact endLoading_idle (h.next rfl rfl id)

theorem Station.Idle.loader {s : Station} (h : s.Idle) (l : Loader) : ({ s with loader := l } : Station).Idle :=
  h.next rfl rfl id

theorem checkImage_idle {s : Station} (h : s.Idle) : (checkImage s).Idle := by
  unfold checkImage
  dsimp only
  split
  · exact h.enterHalted
  · exact h.next rfl rfl id

theorem headerByte_idle {s : Station} (h : s.Idle) (b : Byte) : (headerByte b s).Idle := by
  unfold headerByte
  dsimp only
  split
  · split
    · exact h.loader _
    · exact (h.loader _).enterHalted
  · split
    · split
      · exact (h.loader _).enterHalted
      · exact h.loader _
    · exact h.loader _

theorem crcByteRead_idle {s : Station} (h : s.Idle) (b : Byte) : (crcByteRead b s).Idle := by
  unfold crcByteRead
  dsimp only
  split
  · exact checkImage_idle (h.loader _)
  · exact h.loader _

theorem audioByte_idle {s : Station} (h : s.Idle) (b : Byte) : (audioByte b s).Idle := by
  unfold audioByte
  split
  · exact h.loader _
  · exact h

/-- A byte is read in LOADING alone, which holds nothing (R171). -/
theorem takeFlashByte_holds {s : Station} (h : s.HoldsSoundly) (b : Byte) : (takeFlashByte b s).HoldsSoundly := by
  unfold takeFlashByte
  split
  · have hidle := loading_idle h ‹_›
    split
    · exact .inr (headerByte_idle hidle b)
    · exact .inr (hidle.loader _)
    · exact .inr (crcByteRead_idle hidle b)
    · exact .inr (audioByte_idle hidle b)
    · exact h
  · exact h

/-! ### What falls due at a step (R137, R141) -/

/-- The engines, the store, the port and the draw are no part of the condition. -/
theorem Station.HoldsSoundly.machinery {s : Station} (h : s.HoldsSoundly) (p : Port) (e : Tbl 16 EngineSlot) (t : Store) :
    ({ s with port := p, engines := e, store := t } : Station).HoldsSoundly := h.same rfl rfl rfl rfl

theorem startLocalFrame_holds {s : Station} (h : s.HoldsSoundly) : (startLocalFrame s).HoldsSoundly := by
  obtain ⟨n, d, w, heq⟩ := storeFrame_changes { s with port := { s.port with localSteps := 0 } }
  rw [startLocalFrame, heq]
  exact h.machinery _ _ _

theorem arrivals_holds {s : Station} (h : s.HoldsSoundly) : (arrivals s).HoldsSoundly := by
  obtain ⟨e, heq⟩ := arrivals_changes s
  rw [heq]
  exact h.machinery _ _ _

theorem pendingCloses_holds {s : Station} (h : s.HoldsSoundly) : (pendingCloses s).HoldsSoundly := by
  obtain ⟨b, heq⟩ := pendingCloses_changes s
  rw [heq]
  exact h.machinery _ _ _

theorem reaimEngines_holds {s : Station} (h : s.HoldsSoundly) : (eachEngine reaimEngine s).HoldsSoundly := by
  obtain ⟨e, heq⟩ := reaimEngines_changes s
  rw [heq]
  exact h.machinery _ _ _

theorem wrapEngines_holds {s : Station} (h : s.HoldsSoundly) : (wrapEngines s).HoldsSoundly := by
  obtain ⟨e, heq⟩ := wrapEngines_changes s
  rw [heq]
  exact h.machinery _ _ _

theorem prepareStep_holds {s : Station} (h : s.HoldsSoundly) : (prepareStep s).HoldsSoundly :=
  reaimEngines_holds (loaderReady_holds (pendingCloses_holds (arrivals_holds
    (h.whenDue _ fun _ => startLocalFrame_holds))))

/-! ### The command of a step (R137, R143) -/

/-- A PUT that is a requester's read or write is that requester's. -/
theorem access_put {who asker : Requester} {close cl : Bool} (h : access asker cl = .put who close) : asker = who := by
  cases asker with
  | engine e => cases h
  | recorder => cases h; rfl
  | loader => cases h; rfl

/-- A PUT is decided for a requester alone (R142, R143). -/
theorem decideStep_put (s : Station) (who : Requester) (close : Bool)
    (h : (decideStep s).cmd = some (.put who close)) : ∃ q, asks s q ∧ q.who = who := by
  have not_closing : s.store.closing ≠ some (.put who close) := fun hc => by
    obtain ⟨b, hb, -⟩ := closing_some s _ hc
    cases hb
  have hready : s.store.state = .ready := by
    cases hst : s.store.state with
    | ready => rfl
    | selfRenew => simp [decideStep, hst] at h
    | unset => simp [decideStep, hst] at h
    | stopped => simp [decideStep, hst] at h
    | setting => simp [decideStep, hst] at h
    | renewing => simp [decideStep, hst] at h
    | waking => simp [decideStep, hst] at h
  rw [decideStep_ready s hready] at h
  rcases work_cases s.store.work with hw | hw | hw
  · simp [decideReady_forced s hw, ite_eq_iff, not_closing] at h
  · simp [decideReady_entry s hw, ite_eq_iff, not_closing] at h
  · by_cases hasks : ∃ q, asks s q
    · rw [decideReady_served s hw hasks] at h
      obtain ⟨q, hq, hnext, -⟩ := (served_spec s).1 _ h
      refine ⟨q, hq, ?_⟩
      have hcmd := (nextCommand_iff s q _).mp hnext
      rcases nextCommand_cases s q with ⟨-, -, -, he⟩ | ⟨-, -, -, he⟩ | ⟨-, -, he⟩ | ⟨-, he⟩ <;> rw [he] at hcmd
      · exact access_put hcmd.symm
      · exact access_put hcmd.symm
      · cases hcmd
      · cases hcmd
    · rw [decideReady_idle s hw (not_exists.mp hasks)] at h
      split at h
      · simp [ite_eq_iff, not_closing] at h
      · cases h

theorem loaderRequest_loading (s : Station) (q : Request) (h : loaderRequest s = some q) : s.orders.state = .loading := by
  unfold loaderRequest at h
  split at h
  · rename_i hasks
    simp only [loaderRequests, Bool.and_eq_true, beq_iff_eq] at hasks
    obtain ⟨⟨hloading, -⟩, -⟩ := hasks
    exact hloading
  · cases h

/-- The loader's PUT is decided in LOADING alone (R133, R176). -/
theorem decideStep_loaderPut (s : Station) (close : Bool) (h : (decideStep s).cmd = some (.put .loader close)) :
    s.orders.state = .loading := by
  obtain ⟨q, hq | hq | ⟨e, hq⟩, hwho⟩ := decideStep_put s _ _ h
  · rw [(recorderRequest_who s q hq).1] at hwho
    cases hwho
  · exact loaderRequest_loading s q hq
  · rw [(engineRequest_who s e q hq).1] at hwho
    cases hwho

theorem doFetch_holds {s : Station} (h : s.HoldsSoundly) (e : Fin 16) (close : Bool) :
    (doFetch e close s).HoldsSoundly := by
  obtain ⟨es, st, heq, -⟩ := doFetch_changes e close s
  rw [heq]
  exact h.machinery _ _ _

/-- The recorder's PUT leaves the order unit, and a station with no recording does not make one (R165, R168). -/
theorem recorderPut_holds {s : Station} (h : s.HoldsSoundly) : (recorderPut s).HoldsSoundly := by
  obtain ⟨r, t, heq⟩ := recorderPut_changes s
  exact h.recording (by rw [heq]) (by rw [heq]) fun hr => by simp [recorderPut, hr]

theorem writeBurst_holds {s : Station} (h : s.HoldsSoundly) (a : Nat) (close : Bool) (codes : List Code) :
    (writeBurst a close codes s).HoldsSoundly := h.machinery _ _ _

theorem doPut_holds {s : Station} (h : s.HoldsSoundly) (who : Requester) (close : Bool)
    (hloader : who = .loader → s.orders.state = .loading) : (doPut who close s).HoldsSoundly := by
  cases who with
  | engine e => exact h
  | recorder =>
    cases hr : s.recorder with
    | none => simpa [doPut, hr] using h
    | some r =>
      simp only [doPut, hr]
      exact recorderPut_holds (writeBurst_holds h _ _ _)
  | loader => exact .inr (loaderPut_idle ((loading_idle h (hloader rfl)).next rfl rfl id))

theorem performCmd_holds {s : Station} (h : s.HoldsSoundly) (cmd : StoreCmd)
    (hloader : ∀ close, cmd = .put .loader close → s.orders.state = .loading) : (performCmd cmd s).HoldsSoundly := by
  cases cmd with
  | fetch e close => exact doFetch_holds h e close
  | put who close => exact doPut_holds h who close fun hwho => hloader close (by rw [hwho])
  | openRow b row => exact h.machinery _ _ _
  | close b => exact h.machinery _ _ _
  | renew => exact h.machinery _ _ _
  | setup n => exact h.machinery _ _ _
  | selfRenewEntry => exact h.machinery _ _ _
  | selfRenewExit => exact h.machinery _ _ _

theorem performDecision_holds {s : Station} (h : s.HoldsSoundly) (d : Decision)
    (hloader : ∀ close, d.cmd = some (.put .loader close) → s.orders.state = .loading) :
    (performDecision d s).HoldsSoundly := by
  have hwork : ({ s with store := { s.store with work := d.work } } : Station).HoldsSoundly := h.machinery _ _ _
  cases hcmd : d.cmd with
  | none => simpa [performDecision, hcmd] using hwork
  | some cmd =>
    simp only [performDecision, hcmd]
    exact (performCmd_holds hwork cmd fun close hc => hloader close (by rw [hcmd, hc])).machinery _ _ _

theorem decideAndCarry_holds {s : Station} (h : s.HoldsSoundly) : (decideAndCarry s).HoldsSoundly := by
  obtain ⟨n, heq⟩ | ⟨close, hput, heq⟩ := decideAndCarry_cases s _ rfl <;> rw [heq]
  · exact (performDecision_holds (wrapEngines_holds h) _ (decideStep_loaderPut _)).draw n
  · refine (wrapEngines_holds (performDecision_holds h _ fun close' hput' => ?_)).draw _
    cases hput.symm.trans hput'

theorem closeStep_holds {s : Station} (h : s.HoldsSoundly) : (closeStep s).HoldsSoundly := by
  obtain ⟨q, st, heq⟩ := closeStore_changes s
  rw [closeStep, heq]
  exact h.machinery _ _ _

theorem wholeStep_holds {s : Station} (h : s.HoldsSoundly) : (wholeStep s).HoldsSoundly := by
  unfold wholeStep
  dsimp only
  split
  · exact closeStep_holds (wrapEngines_holds (prepareStep_holds h))
  · exact closeStep_holds (decideAndCarry_holds (prepareStep_holds h))

theorem storeStep_holds {s : Station} (h : s.HoldsSoundly) : (storeStep s).HoldsSoundly :=
  (wholeStep_holds h).whenDue _ fun _ _ => .inr (pulseLoss_idle _)

theorem issueNow_holds {s : Station} (h : s.HoldsSoundly) (cmd : StoreCmd) : (issueNow cmd s).HoldsSoundly := by
  unfold issueNow
  split
  · exact decideAndCarry_holds (prepareStep_holds h)
  · exact h

theorem issuePut_holds {s : Station} (h : s.HoldsSoundly) (close : Bool) : (issuePut close s).HoldsSoundly := by
  unfold issuePut
  split
  · split
    · exact issueNow_holds h _
    · exact h
  · exact h

theorem issueSetup_holds {s : Station} (h : s.HoldsSoundly) : (issueSetup s).HoldsSoundly := by
  unfold issueSetup
  split
  · exact issueNow_holds h _
  · exact h

/-- An accepted pulse counts a step in progress whole first (R4). -/
theorem framePulse_holds {s : Station} (h : s.HoldsSoundly) (long inStep : Bool) :
    (framePulse long inStep s).HoldsSoundly := by
  unfold framePulse
  split
  · exact h
  · exact acceptPulse_holds (h.whenDue _ fun _ => wholeStep_holds) long

end Sys2Proof.Machine
end

/-! What the reply positions and a step keep of the holdings. -/
section
namespace Sys2Proof.Machine

/-! ### Replies (R36 to R38) -/

theorem takeOrder_holds {s : Station} (h : s.HoldsSoundly) : (takeOrder s).HoldsSoundly := h.same rfl rfl rfl rfl

theorem driveReply_holds {s : Station} (h : s.HoldsSoundly) (w : Word) : (driveReply w s).HoldsSoundly :=
  h.same rfl rfl rfl rfl

theorem dropOffer_holds {s : Station} (h : s.HoldsSoundly) : (dropOffer s).HoldsSoundly := h.same rfl rfl rfl rfl

/-- An addressed order keeps what its acceptance keeps. -/
theorem answer_holds {s : Station} (h : s.HoldsSoundly) (station : Nat) (refusal : Option Reason)
    {accept : Station → Station} (haccept : (accept s).HoldsSoundly) :
    (answer station refusal accept s).HoldsSoundly := by
  unfold answer
  split
  · split
    · exact driveReply_holds h _
    · exact haccept
  · exact h

theorem joinPosition_holds {s : Station} (h : s.HoldsSoundly) : (joinPosition s).HoldsSoundly := by
  unfold joinPosition
  split
  · split
    · unfold joinReply makeBid
      split
      · split
        · exact takeOrder_holds h
        · exact h.same rfl rfl rfl rfl
      · exact takeOrder_holds h
    · exact h
  · exact h

theorem leaveChannel_holds {s : Station} (h : s.HoldsSoundly) (tag : BitVec 8) (c : Channel) :
    (leaveChannel tag c s).HoldsSoundly := by
  unfold leaveChannel
  split
  · exact toneLeave_holds h c
  · exact cycleLeave_holds h c tag
  · exact h

theorem leavePosition_holds {s : Station} (h : s.HoldsSoundly) : (leavePosition s).HoldsSoundly := by
  unfold leavePosition
  split
  · split
    · unfold applyLeave
      split
      · exact leaveChannel_holds (takeOrder_holds h) _ _
      · exact takeOrder_holds h
    · exact h
  · exact h

theorem probePosition_holds {s : Station} (h : s.HoldsSoundly) : (probePosition s).HoldsSoundly := by
  unfold probePosition
  split
  · split
    · exact answer_holds (takeOrder_holds h) _ _ (h.same rfl rfl rfl rfl)
    · exact h
  · exact h

/-! ### RECORD and FINISH (R162, R167) -/

theorem refuseTake_holds {s : Station} (h : s.HoldsSoundly) (c : Channel) : (refuseTake c s).HoldsSoundly := by
  unfold refuseTake
  split
  · exact h
  · exact h.post _

/-- A channel in POOL is held on duty alone, so what is taken there is taken on duty. -/
theorem takenFromPool_holds {s t : Station} (h : s.HoldsSoundly) (c : Channel) (hpool : s.table.holding.get c = .pool)
    (horders : t.orders = s.orders) : t.HoldsSoundly :=
  h.channel c (by rw [horders]) (by rw [horders]) fun hnone => by simp [hpool] at hnone

theorem beginRecording_holds {s : Station} (h : s.HoldsSoundly) (id cls : Nat) (c : Channel) :
    (beginRecording id cls c s).HoldsSoundly := by
  unfold beginRecording
  split
  · exact takenFromPool_holds h c ‹_› rfl
  · exact refuseTake_holds h c

theorem betweenPosition_holds {s : Station} (h : s.HoldsSoundly) (between : Option (List OwnerCode)) (c : Channel) :
    (betweenPosition between c s).HoldsSoundly := by
  cases between with
  | none => exact h
  | some others => exact h.whenDue _ fun _ h => ownerPosition_holds h c others

theorem acceptRecord_holds {s : Station} (h : s.HoldsSoundly) (id cls : Nat) (between : Option (List OwnerCode)) :
    (acceptRecord id cls between s).HoldsSoundly := by
  unfold acceptRecord
  split
  · exact h
  · exact beginRecording_holds (betweenPosition_holds (driveReply_holds h _) _ _) _ _ _

theorem recordPosition_holds {s : Station} (h : s.HoldsSoundly) (between : Option (List OwnerCode)) :
    (recordPosition between s).HoldsSoundly := by
  unfold recordPosition
  split
  · split
    · exact answer_holds (takeOrder_holds h) _ _ (acceptRecord_holds (takeOrder_holds h) _ _ _)
    · exact h
  · exact h

@[simp] theorem returnInput_orders (r : Recording) (s : Station) : (returnInput r s).orders = s.orders := by
  unfold returnInput
  split <;> simp

@[simp] theorem settleCommit_orders (s : Station) : (settleCommit s).orders = s.orders := by
  unfold settleCommit
  split
  · rfl
  · split <;> rfl

theorem acceptCommit_holds {s : Station} (h : s.HoldsSoundly) : (acceptCommit s).HoldsSoundly := by
  refine h.recording ?_ ?_ fun hr => by simp [acceptCommit, hr]
  all_goals cases hr : s.recorder <;> simp [acceptCommit, commitRecording, hr]

theorem discardRecording_holds {s : Station} (h : s.HoldsSoundly) : (discardRecording s).HoldsSoundly := by
  refine h.recording ?_ ?_ fun hr => by simp [discardRecording, hr]
  all_goals cases hr : s.recorder <;> simp [discardRecording, hr]

theorem finishPosition_holds {s : Station} (h : s.HoldsSoundly) (action : FinishAction) {accept : Station → Station}
    (haccept : ∀ {s : Station}, s.HoldsSoundly → (accept s).HoldsSoundly) :
    (finishPosition action accept s).HoldsSoundly := by
  unfold finishPosition
  split
  · split
    · split
      · exact answer_holds (takeOrder_holds h) _ _ (haccept (takeOrder_holds h))
      · exact h
    · exact h
  · exact h

/-! ### SERVICE (R44 to R48) -/

/-- A SERVICE keeps what its action keeps in the states that accept it. -/
theorem servicePosition_holds {s : Station} (h : s.HoldsSoundly) (action : ServiceAction) {act : Station → Station}
    (hact : ∀ {s : Station}, s.HoldsSoundly → serviceTarget s.orders.state action ≠ none → (act s).HoldsSoundly) :
    (servicePosition action act s).HoldsSoundly := by
  unfold servicePosition
  split
  · split
    · split
      · refine answer_holds (takeOrder_holds h) _ _ ?_
        unfold acceptService
        split
        · exact takeOrder_holds h
        next heq _ _ htarget =>
          subst heq
          exact hact (driveReply_holds (takeOrder_holds h) _) (by rw [driveReply_orders, htarget]; simp)
      · exact h
    · exact h
  · exact h

theorem enterState_holds {s : Station} (h : s.HoldsSoundly) (st : StationState) (hst : st = .serving ∨ st = .draining) :
    (enterState st s).HoldsSoundly :=
  h.imp (fun hduty => ⟨hst, hduty.2⟩) fun hidle => hidle.next rfl rfl id

theorem serviceTarget_drain (st : StationState) (h : serviceTarget st .drain ≠ none) :
    st = .serving ∨ st = .listening := by
  cases st <;> simp [serviceTarget] at h ⊢

theorem serviceTarget_back (st : StationState) (h : serviceTarget st .back ≠ none) :
    st = .draining ∨ st = .resting := by
  cases st <;> simp [serviceTarget] at h ⊢

/-- A DRAIN is accepted in SERVING, where the standing marks go, and in LISTENING, which holds nothing (R44, R105). -/
theorem drain_holds {s : Station} (h : s.HoldsSoundly) (htarget : serviceTarget s.orders.state .drain ≠ none) :
    (drain s).HoldsSoundly := by
  unfold drain
  split
  · exact eachChannel_keeps Station.HoldsSoundly drainStanding drainStanding_holds _
      (enterState_holds h .draining (.inr rfl))
  · rename_i hserving
    have hlistening := (serviceTarget_drain _ htarget).resolve_left hserving
    exact .inr ((listening_idle h hlistening).next rfl rfl id)

/-- A FORCE drops every channel (R47). -/
theorem force_holds {s : Station} (h : s.HoldsSoundly) : (force s).HoldsSoundly := by
  have hdrop : (dropAll { s with orders := { s.orders with listening := 0 } }).Idle :=
    dropAll_idle _ fun hc => ((h.idle_of_countdown hc).countdown hc).1
  exact .inr (hdrop.next rfl rfl id)

/-- A RETURN is accepted in DRAINING, and in RESTING, which holds nothing (R46). -/
theorem bringBack_holds {s : Station} (h : s.HoldsSoundly) (htarget : serviceTarget s.orders.state .back ≠ none) :
    (bringBack s).HoldsSoundly := by
  unfold bringBack
  split
  · exact enterState_holds h .serving (.inl rfl)
  · rename_i hdraining
    have hresting := (serviceTarget_back _ htarget).resolve_left hdraining
    exact .inr ((h.idle_of_state (by simp [hresting]) (by simp [hresting])).next rfl rfl id)

/-! ### Notice positions (R51, R53) -/

theorem driveNotice_holds {s : Station} (h : s.HoldsSoundly) : (driveNotice s).HoldsSoundly := by
  unfold driveNotice
  dsimp only
  split
  · exact h.same rfl rfl rfl rfl
  · exact h.same rfl rfl rfl rfl

/-- A FAULT won halts the station in the halt countdown alone, where it is idle (R51). -/
theorem settleNotice_holds {s : Station} (h : s.HoldsSoundly) (n : Notice) (won : Bool) :
    (settleNotice n won s).HoldsSoundly := by
  have hsettled : ∀ l, ({ s with orders := { s.orders with
      latch := l, driving := none, drivenStands := false } } : Station).HoldsSoundly := fun _ => h.same rfl rfl rfl rfl
  refine (hsettled _).whenDue _ fun hdue hs => .inr (hs.idle_of_countdown ?_).enterHalted
  simp only [Bool.and_eq_true, Option.isSome_iff_ne_none] at hdue
  exact hdue.2

theorem noticeOutcome_holds {s : Station} (h : s.HoldsSoundly) (others : List Word) :
    (noticeOutcome others s).HoldsSoundly := by
  unfold noticeOutcome
  split
  · exact settleNotice_holds h _ _
  · exact h

theorem noticePosition_holds {s : Station} (h : s.HoldsSoundly) (event : NoticeEvent) :
    (noticePosition event s).HoldsSoundly := by
  cases event with
  | whole others => exact h.whenDue _ fun _ h => noticeOutcome_holds (driveNotice_holds h) others
  | drive => exact h.whenDue _ fun _ => driveNotice_holds
  | outcome others => exact noticeOutcome_holds h others

/-! ### The outcome of an offer (R67 to R70) -/

theorem bindToChannel_holds {s : Station} (h : s.HoldsSoundly) (o : Offer) : (bindToChannel o s).HoldsSoundly := by
  have horders : (bindToChannel o s).orders = s.orders := by unfold bindToChannel; split <;> rfl
  exact h.channel o.channel (by rw [horders]) (by rw [horders]) fun hnone => by simp [bindToChannel, hnone]

theorem bindNewTone_orders (o : Offer) (s : Station) : (bindNewTone o s).orders = s.orders := by
  unfold bindNewTone
  split
  · split <;> rfl
  · rfl

theorem bindNewCycle_orders (o : Offer) (s : Station) : (bindNewCycle o s).orders = s.orders := by
  unfold bindNewCycle
  split
  · split <;> rfl
  · rfl

theorem bindNewOffer_holds {s : Station} (h : s.HoldsSoundly) (o : Offer) : (bindNewOffer o s).HoldsSoundly := by
  unfold bindNewOffer
  split
  · split
    · exact takenFromPool_holds h o.channel ‹_› (bindNewTone_orders o s)
    · exact takenFromPool_holds h o.channel ‹_› (bindNewCycle_orders o s)
  · exact refuseTake_holds h _

theorem bindExisting_holds {s : Station} (h : s.HoldsSoundly) (others : List Word) :
    (bindExisting others s).HoldsSoundly := by
  unfold bindExisting
  split
  · split
    · exact h
    · exact bindToChannel_holds (dropOffer_holds h) _
  · exact h

theorem bindNew_holds {s : Station} (h : s.HoldsSoundly) (others : List Word) : (bindNew others s).HoldsSoundly := by
  unfold bindNew
  split
  · split
    · exact bindNewOffer_holds (dropOffer_holds h) _
    · exact h
  · exact h

theorem loseOffer_holds {s : Station} (h : s.HoldsSoundly) (others : List Word) : (loseOffer others s).HoldsSoundly := by
  unfold loseOffer
  split
  · exact dropOffer_holds h
  · exact h

/-! ### The order position (R16, R35) -/

@[simp] theorem OrderUnit.receive_state (o : OrderUnit) (word : Word) : (o.receive word).state = o.state := by
  simp only [OrderUnit.receive]
  split
  · rfl
  · split <;> rfl

@[simp] theorem OrderUnit.receive_countdown (o : OrderUnit) (word : Word) :
    (o.receive word).countdown = o.countdown := by
  simp only [OrderUnit.receive]
  split
  · rfl
  · split <;> rfl

theorem orderPosition_holds {s : Station} (h : s.HoldsSoundly) (word : Word) : (orderPosition word s).HoldsSoundly := by
  have hcount : (countBreak word s).HoldsSoundly := h.same rfl rfl rfl rfl
  have hbreak := hcount.whenDue (breakDue (countBreak word s)) (f := shelfReset) fun _ _ => .inr (shelfReset_idle _)
  exact hbreak.same (OrderUnit.receive_state _ _) (OrderUnit.receive_countdown _ _) rfl rfl

/-! ### Every command -/

theorem gradeFall_holds {s : Station} (h : s.HoldsSoundly) : (gradeFall s).HoldsSoundly := by
  have hlower : ({ s with monitor := s.monitor.lower } : Station).HoldsSoundly := h.same rfl rfl rfl rfl
  exact hlower.post _

theorem pinReset_idle (pins : BitVec 4) (s : Station) : (pinReset pins s).Idle := by
  refine ⟨fun c => ?_, rfl, rfl, fun hc => absurd rfl hc⟩
  simp [pinReset, Station.afterReset, ChannelTable.fresh]

section
variable {s t : State}

theorem run_holds {f : Station → Station} (hrun : s.run f = .next t) (hf : (f s.toStation).HoldsSoundly) :
    t.toStation.HoldsSoundly := by
  rw [State.run_next s t f hrun]
  exact hf

variable (h : s.toStation.HoldsSoundly)
include h

theorem runChannel_holds {c : Nat} {f : Channel → Station → Station} (hrun : s.runChannel c f = .next t)
    (hf : ∀ c {s : Station}, s.HoldsSoundly → (f c s).HoldsSoundly) : t.toStation.HoldsSoundly := by
  obtain ⟨hc, rfl⟩ := State.runChannel_next s t c f hrun
  exact hf _ h

theorem runBank_holds {b : Nat} {f : Fin 8 → Station → Station} (hrun : s.runBank b f = .next t)
    (hf : ∀ b {s : Station}, s.HoldsSoundly → (f b s).HoldsSoundly) : t.toStation.HoldsSoundly := by
  obtain ⟨hb, rfl⟩ := State.runBank_next s t b f hrun
  exact hf _ h

theorem runEngine_holds {e : Nat} {f : Fin 16 → Station → Station} (hrun : s.runEngine e f = .next t)
    (hf : ∀ e {s : Station}, s.HoldsSoundly → (f e s).HoldsSoundly) : t.toStation.HoldsSoundly := by
  obtain ⟨he, rfl⟩ := State.runEngine_next s t e f hrun
  exact hf _ h

theorem execOpen_holds {b row : Nat} (hrun : execOpen b row s = .next t) : t.toStation.HoldsSoundly := by
  unfold execOpen at hrun
  split at hrun
  · exact runBank_holds h hrun fun _ _ h => issueNow_holds h _
  · cases hrun

/-- Every command leaves the channels held on duty alone. -/
theorem exec_holds {i : Instr} (hexec : exec i s = .next t) : t.toStation.HoldsSoundly := by
  cases i with simp only [exec] at hexec
  | pinReset pins => exact run_holds hexec (.inr (pinReset_idle pins _))
  | framePulse pulse => exact run_holds hexec (framePulse_holds h _ _)
  | pulseLoss => exact run_holds hexec (h.whenDue _ fun _ _ => .inr (pulseLoss_idle _))
  | localFrame => exact run_holds hexec (h.whenDue _ fun _ => startLocalFrame_holds)
  | storeStep => exact run_holds hexec (storeStep_holds h)
  | ownerPosition n others =>
    exact runChannel_holds h hexec fun c _ h => h.whenDue _ fun _ h => ownerPosition_holds h c others
  | samplePosition n others =>
    exact runChannel_holds h hexec fun c _ h => h.whenDue _ fun _ h => samplePosition_holds h c others
  | contentionSurrender n => exact runChannel_holds h hexec fun c _ h => surrender_holds h c
  | orderPosition word => exact run_holds hexec (h.whenDue _ fun _ h => orderPosition_holds h word)
  | shelfReset => exact run_holds hexec (h.whenDue _ fun _ _ => .inr (shelfReset_idle _))
  | join => exact run_holds hexec (joinPosition_holds h)
  | leave => exact run_holds hexec (leavePosition_holds h)
  | probe => exact run_holds hexec (probePosition_holds h)
  | record between => exact run_holds hexec (recordPosition_holds h between)
  | finishCommit => exact run_holds hexec (finishPosition_holds h _ acceptCommit_holds)
  | finishDiscard =>
    exact run_holds hexec (finishPosition_holds h _ fun h => discardRecording_holds (driveReply_holds h _))
  | serviceDrain => exact run_holds hexec (servicePosition_holds h _ drain_holds)
  | serviceForce => exact run_holds hexec (servicePosition_holds h _ fun h _ => force_holds h)
  | serviceReturn => exact run_holds hexec (servicePosition_holds h _ bringBack_holds)
  | serviceNone => exact run_holds hexec (servicePosition_holds h _ fun h _ => h)
  | noticePosition event => exact run_holds hexec (noticePosition_holds h event)
  | bindExisting others => exact run_holds hexec (bindExisting_holds h others)
  | bindNew others => exact run_holds hexec (bindNew_holds h others)
  | offerLost others => exact run_holds hexec (loseOffer_holds h others)
  | backOffExpiry n => exact runChannel_holds h hexec fun c _ h => h.whenDue _ fun _ h => removeBackOff_holds h c
  | stepExpiry n => exact runChannel_holds h hexec fun c _ h => h.whenDue _ fun _ h => expireStep_holds h c
  | toneQuietExpiry n => exact runChannel_holds h hexec fun c _ h => h.whenDue _ fun _ h => expireTone_holds h c
  | cycleQuietExpiry n => exact runChannel_holds h hexec fun c _ h => h.whenDue _ fun _ h => expireCycle_holds h c
  | audioEnd n => exact runChannel_holds h hexec fun c _ h => h.whenDue _ fun _ h => endAudio_holds h c
  | startBoundary n => exact runChannel_holds h hexec fun c _ h => h.whenDue _ fun _ h => startCycle_holds h c
  | gradeFall => exact run_holds hexec (h.whenDue _ fun _ => gradeFall_holds)
  | listeningComplete => exact run_holds hexec (listeningComplete_holds h)
  | haltCountdownEnd => exact run_holds hexec (haltCountdownEnd_holds h)
  | openRow b row => exact execOpen_holds h hexec
  | fetch n => exact runEngine_holds h hexec fun _ _ h => issueNow_holds h _
  | fetchClose n => exact runEngine_holds h hexec fun _ _ h => issueNow_holds h _
  | put => exact run_holds hexec (issuePut_holds h _)
  | putClose => exact run_holds hexec (issuePut_holds h _)
  | close b => exact runBank_holds h hexec fun _ _ h => issueNow_holds h _
  | renew => exact run_holds hexec (issueNow_holds h _)
  | setup => exact run_holds hexec (issueSetup_holds h)
  | selfRenewEntry => exact run_holds hexec (issueNow_holds h _)
  | selfRenewExit => exact run_holds hexec (issueNow_holds h _)
  | pendingClose b => exact runBank_holds h hexec fun _ _ h => h.whenDue _ fun _ h => h.machinery _ _ _
  | storeQuietEnd => exact run_holds hexec (h.whenDue _ fun _ h => h.machinery _ _ _)
  | fetchDataArrival => exact run_holds hexec (h.whenDue _ fun _ => arrivals_holds)
  | renewDebtRise => exact run_holds hexec (h.whenDue _ fun _ h => h.machinery _ _ _)
  | captureStart => exact run_holds hexec (h.whenDue _ fun _ => startCapture_holds)
  | endSilenceStop => exact run_holds hexec (h.whenDue _ fun _ => stopCapture_holds)
  | fullAreaStop => exact run_holds hexec (h.whenDue _ fun _ => stopCapture_holds)
  | flashByte byte => exact run_holds hexec (takeFlashByte_holds h byte)

end

end Sys2Proof.Machine

namespace Sys2Proof.Proofs
open Sys2Proof Sys2Proof.Machine

/-- Settles O59: the condition says that the station is on duty, with no countdown running, or idle; each command keeps
it, by the part of the station it changes. -/
theorem stepKeepsHoldingToService : Obligations.StepKeepsHoldingToService := by
  intro s t hs hstep
  rw [holdingOk_iff] at hs ⊢
  unfold step at hstep
  split at hstep
  next =>
    cases hstep
    exact hs
  next command rest _ => exact exec_holds (s := { s with pending := rest }) hs hstep

end Sys2Proof.Proofs
end

/-! The resets, and what an owner position settles: claims, losses and duplicate identities (chapter 2). -/
section
namespace Sys2Proof.Machine

/-! ### Claims (R22) -/

theorem ownerPosition_claimed (c : Channel) (others : List OwnerCode) (s : Station) (hclaim : s.table.claimed = some c)
    (hstop : s.table.stopped = false) : ownerPosition c others s =
      settleClaim c (wins s.number others) (readOwner c (some s.number) (laneWord (s.number :: others)) s) := by
  simp [ownerPosition, drivesOwner, hclaim, hstop, wins]

/-- What a settled claim changes of the station, whoever won (R22). -/
theorem settleClaim_changes (c : Channel) (won : Bool) (s : Station) :
    ∃ t, settleClaim c won s = { s with table := t } ∧ t.view = s.table.view := by
  obtain ⟨-, -, e⟩ | ⟨-, rest, x, -, -, e⟩ | ⟨-, e⟩ := settleClaim_cases c won s <;> exact ⟨_, e, rfl⟩

/-- A claim won is in POOL, in the newest place; where POOL holds 4 the newest of them goes (R22, R34). -/
theorem settleClaim_won (c : Channel) (s : Station) :
    (settleClaim c true s).table.backOff = s.table.backOff ∧ (settleClaim c true s).table.holding.get c = .pool
    ∧ (settleClaim c true s).table.contention.get c = 0
    ∧ (s.table.pool.length < 4 → (settleClaim c true s).table.pool = s.table.pool ++ [c]
        ∧ ∀ d, d ≠ c → (settleClaim c true s).table.holding.get d = s.table.holding.get d)
    ∧ ∀ rest x, s.table.pool = rest ++ [x] → 4 ≤ s.table.pool.length →
        (settleClaim c true s).table.pool = rest ++ [c]
        ∧ (x ≠ c → (settleClaim c true s).table.holding.get x = .none)
        ∧ ∀ d, d ≠ c → d ≠ x → (settleClaim c true s).table.holding.get d = s.table.holding.get d := by
  obtain ⟨-, hroom, e⟩ | ⟨-, rest, x, hpool, hfull, e⟩ | ⟨h, -⟩ := settleClaim_cases c true s
  · rw [e]
    refine ⟨rfl, by simp [ChannelTable.hold], by simp [ChannelTable.hold], fun _ => ⟨rfl, fun d hd => ?_⟩,
      fun _ _ _ hlen => absurd hroom (Nat.not_lt.mpr hlen)⟩
    simp [ChannelTable.hold, Ne.symm hd]
  · rw [e]
    refine ⟨rfl, by simp [ChannelTable.hold], by simp [ChannelTable.hold], fun hroom => ?_, fun rest' x' hpool' _ => ?_⟩
    · simp [hpool] at hroom
      omega
    · obtain ⟨rfl, hx⟩ := List.append_inj' (hpool.symm.trans hpool') rfl
      obtain rfl : x = x' := by simpa using hx
      refine ⟨rfl, fun hxc => ?_, fun d hdc hdx => ?_⟩
      · simp [ChannelTable.hold, Ne.symm hxc]
      · simp [ChannelTable.hold, Ne.symm hdc, Ne.symm hdx]
  · cases h

theorem settleClaim_lost (c : Channel) (s : Station) : settleClaim c false s =
    { s with table := { s.table with backOff := s.table.backOff ++ [{ channel := c, left := 16 }] } } := rfl

/-! ### Losses (R28) -/

theorem ownerPosition_lost (c : Channel) (others : List OwnerCode) (s : Station)
    (hheld : s.table.holding.get c ≠ .none) (hclaim : s.table.claimed ≠ some c) (hstop : s.table.stopped = false)
    (hlost : wins s.number others = false) : ownerPosition c others s =
      loseChannel c (laneWord (s.number :: others)).toNat
        (readOwner c (some s.number) (laneWord (s.number :: others)) s) := by
  have hread : laneWord (s.number :: others) ≠ s.number := by simpa [wins] using hlost
  simp [ownerPosition, drivesOwner, (Holding.isHeld_iff _).mpr hheld, hclaim, hstop, hread]

/-- A channel in service dropped: of the table its own entry, what a cycle or a recording kept for it, and no more
(R28). -/
theorem dropChannel_inService (c : Channel) (s : Station) (h : (s.table.holding.get c).inService = true) :
    ∃ f e r, dropChannel c s = { s with table := s.table.hold c .none, formed := f, engines := e, recorder := r }
      ∧ (∀ q, s.table.holding.get c = .cycle q → (e.get q.engine).bound = none)
      ∧ (s.table.holding.get c = .record → r = none) := by
  cases hc : s.table.holding.get c with
  | none => simp [hc, Holding.inService] at h
  | pool => simp [hc, Holding.inService] at h
  | tone q => exact ⟨s.formed.put c none, s.engines, s.recorder, by simp [dropChannel, tearDown, hc], by simp, by simp⟩
  | cycle q =>
    refine ⟨s.formed.put c none, (freeEngineSlot q.engine s).engines, s.recorder, ?_, ?_, by simp⟩
    · simp only [dropChannel, tearDown, hc]
      rfl
    · rintro _ ⟨rfl⟩
      simp [freeEngineSlot]
  | record => exact ⟨s.formed.put c none, s.engines, none, by simp [dropChannel, tearDown, hc], by simp, by simp⟩

/-- A POOL channel dropped gives up its place (R28). -/
theorem dropChannel_pool (c : Channel) (s : Station) (h : s.table.holding.get c = .pool) :
    dropChannel c s = { s with
      table := { s.table.hold c .none with pool := s.table.pool.erase c }, formed := s.formed.put c none } := by
  simp [dropChannel, tearDown, h, ChannelTable.hold]

/-- A channel in service lost: it is dropped, and LOST is taken by the table of R52 (R28). -/
theorem loseChannel_inService (c : Channel) (n : Nat) (s : Station) (h : (s.table.holding.get c).inService = true)
    (ha : s.orders.state.answers = true) :
    ∃ f e r, loseChannel c n s = { s with
        table := s.table.hold c .none, formed := f, engines := e, recorder := r
        orders := s.orders.take { kind := .lost, channel := some c, detail := n } }
      ∧ (∀ q, s.table.holding.get c = .cycle q → (e.get q.engine).bound = none)
      ∧ (s.table.holding.get c = .record → r = none) := by
  obtain ⟨f, e, r, hdrop, hdetails⟩ := dropChannel_inService c s h
  exact ⟨f, e, r, by rw [loseChannel, if_pos h, hdrop]; exact post_answered _ _ ha, hdetails⟩

/-- A POOL channel lost is dropped, and no notice is posted (R28). -/
theorem loseChannel_pool (c : Channel) (n : Nat) (s : Station) (h : s.table.holding.get c = .pool) :
    loseChannel c n s = { s with
      table := { s.table.hold c .none with pool := s.table.pool.erase c }, formed := s.formed.put c none } := by
  rw [loseChannel, if_neg (by simp [h, Holding.inService]), dropChannel_pool c s h]

theorem inService_ne_none {h : Holding} (hs : h.inService = true) : h ≠ .none := by
  rintro rfl
  cases hs

theorem hold_other (t : ChannelTable) (c d : Channel) (h : Holding) (hd : d ≠ c) :
    (t.hold c h).holding.get d = t.holding.get d := by
  simp [ChannelTable.hold, Ne.symm hd]

theorem hold_same (t : ChannelTable) (c : Channel) (h : Holding) : (t.hold c h).holding.get c = h := by
  simp [ChannelTable.hold]

/-! ### Duplicate identities (R30) -/

theorem ownerPosition_twin (c : Channel) (others : List OwnerCode) (s : Station)
    (hheld : s.table.holding.get c = .none) (hclaim : s.table.claimed ≠ some c) (hstop : s.table.stopped = false)
    (ha : s.orders.state.answers = true) (hread : laneWord others = s.number) :
    ownerPosition c others s = duplicateIdentity c (readOwner c none s.number s) := by
  have hlooks : looksForTwin s = true := by simp [looksForTwin, ha, hstop]
  simp [ownerPosition, drivesOwner, hheld, Holding.isHeld, hclaim, hread, hlooks]

/-- In the states that answer, a duplicate identity drops every channel and takes FAULT (R30, R51). -/
theorem duplicateIdentity_answered (c : Channel) (s : Station) (ha : s.orders.state.answers = true) :
    duplicateIdentity c s = { dropAll s with
      table := { (dropAll s).table with stopped := true }
      orders := OrderUnit.take { s.orders with countdown := some 16, list := [] }
        { kind := .fault, channel := some c, detail := 1 } } :=
  post_answered _ _ ha

@[simp] theorem take_countdown (n : Notice) (o : OrderUnit) : (o.take n).countdown = o.countdown := by
  obtain ⟨l, m, d, h⟩ := take_eq o n
  rw [h]

@[simp] theorem take_list (n : Notice) (o : OrderUnit) : (o.take n).list = o.list := by
  obtain ⟨l, m, d, h⟩ := take_eq o n
  rw [h]

@[simp] theorem take_state (n : Notice) (o : OrderUnit) : (o.take n).state = o.state := by
  obtain ⟨l, m, d, h⟩ := take_eq o n
  rw [h]

/-- A FAULT, the most urgent notice, is latched whatever waits (R52). -/
theorem take_fault (n : Notice) (o : OrderUnit) (h : n.kind = .fault) : (o.take n).latch = some n := by
  cases hl : o.latch with
  | none => rw [take_latches n o hl]; rfl
  | some k => rw [take_replaces n k o hl (by rw [h]; exact Fin.zero_le _)]; rfl

end Sys2Proof.Machine

namespace Sys2Proof.Proofs
open Sys2Proof Sys2Proof.Machine

/-- Settles O3, block by block. -/
theorem pinResetReturnsEveryBlock : Obligations.PinResetReturnsEveryBlock := by
  intro pins s
  refine ⟨_, rfl, rfl, rfl, ?_⟩
  simp [pinReset, Station.afterReset, StationState.afterReset, Port.fresh, ChannelTable.fresh, OrderUnit.fresh,
    Store.fresh, Bank.fresh, Monitor.fresh, Tables.fresh, Loader.fresh]

/-- Settles O60: the reset values, block by block, with the pins at 0. -/
theorem resetIsSound : Obligations.ResetIsSound := by
  have hnone : ∀ c, State.reset.table.holding.get c = .none := fun c => Tbl.get_fill _ c
  refine ⟨rfl, ⟨fun c => ?_, fun o ho => ?_⟩, (holdingOk_iff _).mpr (.inr ⟨hnone, rfl, rfl, fun h => absurd rfl h⟩), ?_⟩
  · rw [hnone c]
    exact Nat.zero_le _
  · cases ho
  · exact fun h : StationState.afterReset 0 = .halted => absurd h (by decide)

/-- Settles O12, by the outcome of the claim. -/
theorem claimIsSettled : Obligations.ClaimIsSettled := by
  intro c others s ht hn hclaim hstop
  refine ⟨_, exec_ownerPosition c others s ht hn, ?_⟩
  rw [ownerPosition_claimed c others s.toStation hclaim hstop]
  obtain ⟨t, heq, hview⟩ := settleClaim_changes c (wins s.number others)
    (readOwner c (some s.number) (laneWord (s.number :: others)) s.toStation)
  refine ⟨by rw [heq]; rfl, fun hwon => ?_, fun hlost => ?_, fun d hd => ?_⟩
  · have hread : laneWord (s.number :: others) = s.number := by simpa [wins] using hwon
    refine ⟨?_, ?_⟩
    · rw [heq]
      simp [hview, hread, readOwner]
    · rw [hwon]
      exact settleClaim_won c _
  · rw [hlost, settleClaim_lost]
    exact ⟨rfl, rfl, rfl⟩
  · rw [heq]
    simp [hview, readOwner, Ne.symm hd]

/-- Settles O13, by whether the channel lost was in service or in POOL. -/
theorem lostChannelIsTornDown : Obligations.LostChannelIsTornDown := by
  refine ⟨fun c others s ht hn hclaim hstop hserve hlost ha => ?_, fun c others s ht hn hclaim hstop hpool hlost => ?_⟩
  · have hexec := exec_ownerPosition c others s ht hn
    obtain ⟨f, e, r, hlose, hengine, hrecorder⟩ := loseChannel_inService c (laneWord (s.number :: others)).toNat
      (readOwner c (some s.number) (laneWord (s.number :: others)) s.toStation) hserve ha
    rw [ownerPosition_lost c others s.toStation (inService_ne_none hserve) hclaim hstop hlost, hlose] at hexec
    exact ⟨_, hexec, hold_same _ c _, rfl, take_taken _ _, hengine, hrecorder, fun d hd => hold_other _ c d _ hd, rfl,
      rfl, rfl, rfl⟩
  · have hexec := exec_ownerPosition c others s ht hn
    rw [ownerPosition_lost c others s.toStation (by simp [hpool]) hclaim hstop hlost,
      loseChannel_pool c _ (readOwner c _ _ s.toStation) hpool] at hexec
    exact ⟨_, hexec, hold_same _ c _, rfl, rfl, Tbl.get_put_same _ c _, fun d hd => hold_other _ c d _ hd, rfl⟩

/-- Settles O14: every channel dropped, the countdown begun, and FAULT latched whatever waits. -/
theorem duplicateIdentityStopsTheStation : Obligations.DuplicateIdentityStopsTheStation := by
  intro c others s ht hn hheld hclaim hstop ha hread
  have hexec := exec_ownerPosition c others s ht hn
  rw [ownerPosition_twin c others s.toStation hheld hclaim hstop ha hread,
    duplicateIdentity_answered c (readOwner c none s.number s.toStation) ha] at hexec
  exact ⟨_, hexec, rfl, rfl, fun d => dropAll_holding d s.toStation, rfl, rfl, fun e => by simp [dropAll],
    take_countdown _ _, take_list _ _, take_state _ _, take_fault _ _ rfl, rfl, rfl⟩

/-- Settles O17. -/
theorem backOffEntryExpires : Obligations.BackOffEntryExpires := by
  intro c s hentry
  have hdue : backOffDue c s.toStation = true := List.any_eq_true.mpr ⟨_, hentry, by simp⟩
  simp [exec, execBackOffExpiry, hdue, removeBackOff]

end Sys2Proof.Proofs
end

/-! The reply positions of RECORD, FINISH DISCARD and SERVICE FORCE, and a won NEW offer: which outcome comes of which
order, and the words driven (chapters 3, 4 and 11). -/
section
namespace Sys2Proof.Machine

/-! ### The words driven (R179) -/

theorem recordAcceptWord_hasFields (station : BitVec 4) (c : Channel) (z : Nat) :
    hasFields (recordAcceptWord station c.val z) 0 0 station c.val (z / 16 % 4096) := by
  have hword : (recordAcceptWord station c.val z).toNat = 262144 * station.toNat + 4096 * c.val + z / 16 % 4096 := by
    simp only [recordAcceptWord, toNat_append_eq_add, BitVec.toNat_ofNat]
    omega
  have hstation := station.isLt
  simp only [hasFields, bits, hword]
  omega

theorem refusalWord_hasFields (reason : Reason) (station : BitVec 4) :
    hasFields (refusalWord reason station) 2 (16 * reasonNumber reason + 15) station 63 4095 := by
  have hcode : reason.code = reasonNumber reason := by cases reason <;> rfl
  have hreason : reasonNumber reason < 7 := by cases reason <;> decide
  have hword : (refusalWord reason station).toNat =
      2147483648 + 67108864 * reasonNumber reason + 62914560 + 262144 * station.toNat + 262143 := by
    simp only [refusalWord, toNat_append_eq_add, BitVec.toNat_ofNat, hcode]
    omega
  have hstation := station.isLt
  simp only [hasFields, bits, hword]
  omega

/-- The FINISH accept form has its fields at the bits of section 13.2 (R179). -/
theorem finishAcceptWord_layout (station : BitVec 4) (damaged : Bool) (length : Nat) (w : Word)
    (h : w = finishAcceptWord station damaged length) :
    bits w 31 30 = 0 ∧ bits w 29 26 = (if damaged then 1 else 0) ∧ bits w 25 22 = 0 ∧ bits w 21 18 = station.toNat
      ∧ bits w 17 0 = length % 262144 := by
  have hcondition : (if damaged then 1#4 else 0#4).toNat = if damaged then 1 else 0 := by cases damaged <;> rfl
  have hword : w.toNat = 67108864 * (if damaged then 1 else 0) + 262144 * station.toNat + length % 262144 := by
    rw [h]
    simp only [finishAcceptWord, toNat_append_eq_add, BitVec.toNat_ofNat, hcondition]
    omega
  have hstation := station.isLt
  simp only [bits, hword]
  split <;> omega

/-! ### Which order is due (R36, R37) -/

section
variable (s : State) (o : Order) (hdue : dueOrder s.toStation = some o)
include hdue

theorem exec_record (station id : Nat) (hbody : o.body = .record station id) (between : Option (List OwnerCode)) :
    exec (.record between) s = .next ⟨answer station (recordRefusal s.toStation o.cls id)
      (acceptRecord id o.cls between) (takeOrder s.toStation), s.pending⟩ := by
  simp [exec, execRecord, recordPosition, hdue, hbody]

theorem exec_finishDiscard (station : Nat) (hbody : o.body = .finish station .discard) :
    exec .finishDiscard s = .next ⟨answer station (finishRefusal s.toStation o.cls .discard) acceptDiscard
      (takeOrder s.toStation), s.pending⟩ := by
  simp [exec, execFinishDiscard, finishPosition, hdue, hbody]

theorem exec_serviceForce (station : Nat) (hbody : o.body = .service station .force) :
    exec .serviceForce s = .next ⟨answer station (serviceRefusal s.toStation o.cls .force)
      (acceptService .force force) (takeOrder s.toStation), s.pending⟩ := by
  simp [exec, execServiceForce, servicePosition, hdue, hbody]

end

/-- An order for another station is discarded (R37). -/
theorem answer_other (station : Nat) (refusal : Option Reason) (accept : Station → Station) (s : Station)
    (h : station ≠ s.number.toNat) : answer station refusal accept s = s := if_neg h

theorem answer_refused (station : Nat) (r : Reason) (accept : Station → Station) (s : Station)
    (h : station = s.number.toNat) : answer station (some r) accept s = refuse r s := if_pos h

theorem answer_accepted (station : Nat) (accept : Station → Station) (s : Station) (h : station = s.number.toNat) :
    answer station none accept s = accept s := if_pos h

/-! ### RECORD (R37, R162) -/

theorem recordRoom_iff (s : Station) : recordRoom s = true ↔ ∀ c, s.table.holding.get c ≠ .record := by
  simp [recordRoom, countHolding, numbers, List.filter_eq_nil_iff]

theorem latchedAnywhere_iff (s : Station) (base : Nat) :
    latchedAnywhere s base = true ↔ ∃ x eng, engineAt s x = some eng ∧ eng.area.base = base := by
  simp only [latchedAnywhere, List.any_eq_true, numbers, List.mem_finRange, true_and]
  refine exists_congr fun x => ?_
  cases engineAt s x <;> simp

/-- The directory entry of a RECORD, where it is recordable (R37). -/
theorem recordable_some (s : Station) (id : Nat) (e : Entry) (he : findEntry s id = some e) (hp : e.pair.isSome = true) :
    recordable s id = some e := by
  simp [recordable, he, hp]

theorem recordable_none (s : Station) (id : Nat) (h : ∀ e, findEntry s id = some e → e.pair = none) :
    recordable s id = none := by
  cases he : findEntry s id with
  | none => simp [recordable, he]
  | some e => simp [recordable, he, h e he]

/-- The checks of a RECORD once its entry is found recordable, in SERVING with the recorder IDLE (R37). -/
theorem recordRefusal_found (s : Station) (cls id : Nat) (e : Entry) (hcls : 2 ≤ cls)
    (hserving : s.orders.state = .serving) (hidle : s.recorder = none) (he : findEntry s id = some e) (hp : e.pair.isSome = true) :
    recordRefusal s cls id =
      if e.guarded ∧ cls < 3 then some .cls
      else if s.table.pool = [] ∨ recordRoom s = false then some .noChannel
      else if latchedAnywhere s (e.alternate.getD 0) then some .busy
      else none := by
  simp [recordRefusal, Nat.not_lt.mpr hcls, hserving, hidle, recordable_some s id e he hp]

/-- A RECORD that passes every check of R37 is accepted. -/
theorem recordRefusal_accepted (s : Station) (cls id : Nat) (e : Entry) (hcls : 2 ≤ cls)
    (hserving : s.orders.state = .serving) (hidle : s.recorder = none) (he : findEntry s id = some e)
    (hp : e.pair.isSome = true) (hguard : e.guarded = true → 3 ≤ cls) (hpool : s.table.pool ≠ [])
    (hroom : ∀ d, s.table.holding.get d ≠ .record)
    (hlatch : ∀ x eng, engineAt s x = some eng → some eng.area.base ≠ e.alternate) (halt : e.alternate.isSome = true) :
    recordRefusal s cls id = none := by
  have hunlatched : latchedAnywhere s (e.alternate.getD 0) = false := by
    rw [← Bool.not_eq_true, latchedAnywhere_iff]
    rintro ⟨x, eng, heng, hbase⟩
    obtain ⟨a, ha⟩ := Option.isSome_iff_exists.mp halt
    exact hlatch x eng heng (by rw [hbase, ha]; rfl)
  rw [recordRefusal_found s cls id e hcls hserving hidle he hp,
    if_neg fun h => absurd (hguard h.1) (Nat.not_le.mpr h.2), if_neg, hunlatched]
  · rfl
  · simp [hpool, (recordRoom_iff _).mpr hroom]

/-- An accepted RECORD takes the oldest pool channel, where its owner position has left it in POOL (R27, R162). -/
theorem acceptRecord_eq (id cls : Nat) (between : Option (List OwnerCode)) (s : Station) (c : Channel)
    (rest : List Channel) (hpool : s.table.pool = c :: rest) : acceptRecord id cls between s =
      beginRecording id cls c (betweenPosition between c
        (driveReply (recordAcceptWord s.number c.val s.tables.areaSize) s)) := by
  simp only [acceptRecord, hpool]

theorem beginRecording_pool (id cls : Nat) (c : Channel) (s : Station) (h : s.table.holding.get c = .pool) :
    beginRecording id cls c s = { takeInto c .record s with recorder := some (Recording.fresh id cls c) } := if_pos h

theorem beginRecording_gone (id cls : Nat) (c : Channel) (s : Station) (h : s.table.holding.get c = .none) :
    beginRecording id cls c s = refuseTake c s := if_neg (by simp [h])

/-- A take refused posts LOST with the code in the view (R27, R70). -/
theorem refuseTake_viewed (c : Channel) (s : Station) (code : OwnerCode) (hstop : s.table.stopped = false)
    (hview : s.table.view.get c = some code) :
    refuseTake c s = post { kind := .lost, channel := some c, detail := code.toNat } s := by
  simp [refuseTake, hstop, viewCode, hview]

/-- Where the owner position between shows the channel held, it is taken (R27, R162). -/
theorem beginRecording_afterWon (id cls : Nat) (c : Channel) (others : List OwnerCode) (s : Station)
    (hheld : s.table.holding.get c = .pool) (hclaim : s.table.claimed ≠ some c) (hstop : s.table.stopped = false)
    (hwon : wins s.number others = true) : beginRecording id cls c (ownerPosition c others s) =
      { takeInto c .record (readOwner c (some s.number) s.number s) with
        recorder := some (Recording.fresh id cls c) } := by
  rw [ownerPosition_heldWon c others s (by simp [hheld]) hclaim hstop hwon]
  exact beginRecording_pool id cls c _ hheld

/-- Where the owner position between shows the channel lost, it gives up its place, and LOST is posted with the code read
(R27, R28). -/
theorem beginRecording_afterLost (id cls : Nat) (c : Channel) (others : List OwnerCode) (s : Station)
    (hheld : s.table.holding.get c = .pool) (hclaim : s.table.claimed ≠ some c) (hstop : s.table.stopped = false)
    (hlost : wins s.number others = false) : beginRecording id cls c (ownerPosition c others s) =
      post { kind := .lost, channel := some c, detail := (laneWord (s.number :: others)).toNat }
        { readOwner c (some s.number) (laneWord (s.number :: others)) s with
          table := { (readOwner c (some s.number) (laneWord (s.number :: others)) s).table.hold c .none with
            pool := s.table.pool.erase c }
          formed := s.formed.put c none } := by
  rw [ownerPosition_lost c others s (by simp [hheld]) hclaim hstop hlost,
    loseChannel_pool c _ (readOwner c (some s.number) (laneWord (s.number :: others)) s) hheld,
    beginRecording_gone id cls c _ (hold_same _ c _)]
  exact refuseTake_viewed c _ _ hstop (Tbl.get_put_same _ c _)

/-- A channel of the station has no room for a RECORD where one is held for it already (R34). -/
theorem recordRoom_false (s : Station) : recordRoom s = false ↔ ∃ c, s.table.holding.get c = .record := by
  rw [← Bool.not_eq_true, recordRoom_iff]
  simp

/-! ### FINISH DISCARD (R37, R167) -/

theorem RecordPhase.unsettled_iff (p : RecordPhase) : p.unsettled = true ↔ p ≠ .committing := by
  cases p <;> simp [RecordPhase.unsettled]

/-- The checks that both actions of a FINISH meet, in the order of R37. -/
theorem finishRefusal_refused (s : State) (cls : Nat) (action : FinishAction) (reason : Reason)
    (h : finishRefused s cls reason) : finishRefusal s.toStation cls action = some reason := by
  rcases h with ⟨rfl, hcls⟩ | ⟨rfl, hcls, hphase⟩ | ⟨rfl, hcls, r, hr, hphase, hlow⟩
  · simp [finishRefusal, hcls]
  · cases hr : s.recorder with
    | none => simp [finishRefusal, Nat.not_lt.mpr hcls, hr]
    | some r => simp [finishRefusal, Nat.not_lt.mpr hcls, hr, hphase r hr, RecordPhase.unsettled]
  · simp [finishRefusal, Nat.not_lt.mpr hcls, hr, (RecordPhase.unsettled_iff _).mpr hphase, hlow]

theorem finishRefusal_discard (s : Station) (cls : Nat) (r : Recording) (hcls : 2 ≤ cls) (hr : s.recorder = some r)
    (hphase : r.phase ≠ .committing) (hlow : r.cls ≤ cls) : finishRefusal s cls .discard = none := by
  simp [finishRefusal, Nat.not_lt.mpr hcls, hr, (RecordPhase.unsettled_iff _).mpr hphase, Nat.not_lt.mpr hlow]

theorem acceptDiscard_eq (s : Station) (r : Recording) (c : Channel) (hr : s.recorder = some r) (hin : r.input = some c) :
    acceptDiscard s = returnChannel s.table.target c
      { driveReply (finishAcceptWord s.number false 0) s with recorder := none } := by
  simp [acceptDiscard, discardRecording, hr, returnInput, hin]

/-! ### SERVICE FORCE (R47) -/

/-- A FORCE of class 3 is accepted in SERVING, DRAINING and LISTENING (R37, R47). -/
theorem forceAccepted (s : Station)
    (h : s.orders.state = .serving ∨ s.orders.state = .draining ∨ s.orders.state = .listening) :
    serviceRefusal s 3 .force = none ∧ serviceTarget s.orders.state .force = some .resting := by
  rcases h with h | h | h <;> simp [serviceRefusal, serviceTarget, h]

/-! ### A won NEW offer (R68, R70) -/

theorem exec_bindNew (s : State) (o : Offer) (word : Word) (others : List Word) (ho : s.offer = some o)
    (hw : s.port.replyOut = some word) (hwon : wins word others = true) (hnew : o.isNew = true) :
    exec (.bindNew others) s = .next ⟨bindNewOffer o (dropOffer s.toStation), s.pending⟩ := by
  simp [exec, execBindNew, bindNew, offerOutcome, ho, hw, hwon, hnew]

theorem bindNewOffer_tone (o : Offer) (s : Station) (g : Fin 8) (hpool : s.table.holding.get o.channel = .pool)
    (hway : o.wayIn = .newTone) (hg : freeGenerator s = some g) (hroom : countHolding s Holding.isTone < 8) :
    bindNewOffer o s = startTone o.channel o.signal false 1 g s := by
  simp [bindNewOffer, hpool, hway, bindNewTone, hg, toneRoom, hroom]

theorem bindNewOffer_cycle (o : Offer) (s : Station) (e : Fin 16) (entry : Entry)
    (hpool : s.table.holding.get o.channel = .pool) (hway : o.wayIn = .newCycle) (he : freeEngine s = some e)
    (hentry : findEntry s o.signal = some entry) (hroom : countHolding s Holding.isCycle < 16) :
    bindNewOffer o s = startCycleChannel o entry e s := by
  simp [bindNewOffer, hpool, hway, bindNewCycle, he, hentry, cycleRoom, hroom]

end Sys2Proof.Machine

namespace Sys2Proof.Proofs
open Sys2Proof Sys2Proof.Machine

/-- Settles O30: the checks in their order, each on the state that the ones before it leave. -/
theorem recordIsRefusedInOrder : Obligations.RecordIsRefusedInOrder := by
  refine ⟨refusalWord_hasFields, fun s o station id between hdue hbody hother => ?_,
    fun s o id between reason hdue hbody hcase => ?_⟩
  · rw [exec_record s o hdue station id hbody between, answer_other _ _ _ (takeOrder s.toStation) hother]
    rfl
  · have hrefused : recordRefusal s.toStation o.cls id = some reason := by
      rcases hcase with ⟨rfl, hcls⟩ | ⟨rfl, hcls, hst⟩ | ⟨hcls, hserving, hidle, ⟨rfl, hnone⟩ | ⟨e, he, hp, hentry⟩⟩
      · simp [recordRefusal, hcls]
      · simp [recordRefusal, Nat.not_lt.mpr hcls, Option.isSome_iff_ne_none, hst]
      · simp [recordRefusal, Nat.not_lt.mpr hcls, hserving, hidle, recordable_none s.toStation id hnone]
      · rw [recordRefusal_found s.toStation o.cls id e hcls hserving hidle he (Option.isSome_iff_ne_none.mpr hp)]
        rcases hentry with ⟨rfl, hguard, hlow⟩ | ⟨hclear, hrest⟩
        · rw [if_pos ⟨hguard, hlow⟩]
        · rw [if_neg fun h => absurd (hclear h.1) (Nat.not_le.mpr h.2)]
          rcases hrest with ⟨rfl, hempty⟩ | ⟨rfl, hpool, hroom, x, eng, heng, halt⟩
          · rw [if_pos (hempty.imp_right (recordRoom_false _).mpr)]
          · have hlatched : latchedAnywhere s.toStation (e.alternate.getD 0) = true :=
              (latchedAnywhere_iff _ _).mpr ⟨x, eng, heng, by simp [halt]⟩
            rw [if_neg, if_pos hlatched]
            simp [hpool, (recordRoom_iff _).mpr hroom]
    rw [exec_record s o hdue s.number.toNat id hbody between, hrefused,
      answer_refused s.number.toNat _ _ (takeOrder s.toStation) rfl]
    rfl

/-- Settles O29: the checks pass, and where the channel's owner position comes between, it is won or lost. -/
theorem recordBeginsARecording : Obligations.RecordBeginsARecording := by
  refine ⟨recordAcceptWord_hasFields, fun s o id e c rest hdue hbody hcls hserving hidle he hp hguard hpool hheld hroom
    hlatch halt => ?_⟩
  have hexec : ∀ between, exec (.record between) s = .next ⟨beginRecording id o.cls c (betweenPosition between c
      (driveReply (recordAcceptWord s.number c.val s.tables.areaSize) (takeOrder s.toStation))), s.pending⟩ := by
    intro between
    rw [exec_record s o hdue s.number.toNat id hbody between,
      recordRefusal_accepted s.toStation o.cls id e hcls hserving hidle he hp hguard (by simp [hpool]) hroom hlatch halt,
      answer_accepted s.number.toNat _ (takeOrder s.toStation) rfl,
      acceptRecord_eq id o.cls between (takeOrder s.toStation) c rest hpool]
    rfl
  have hplain := hexec none
  rw [betweenPosition, beginRecording_pool id o.cls c (driveReply _ (takeOrder s.toStation)) hheld] at hplain
  refine ⟨hplain.trans ?_, fun others hpassed => ?_, fun others hnext hclaim hstop => ?_⟩
  · simp [takeInto, ChannelTable.hold, Recording.fresh, driveReply, takeOrder, hpool]
  · rw [hexec, hexec]
    simp [betweenPosition, ownerOpen, driveReply, Nat.not_le.mpr hpassed]
  · obtain ⟨hreply, -⟩ := dueOrder_some s.toStation o hdue
    have hopen : ownerOpen c s.toStation = true := by
      simp only [replyOpen, Bool.and_eq_true] at hreply
      simp [ownerOpen, hreply.1, hnext]
    have hbetween := hexec (some others)
    rw [betweenPosition, show ownerOpen c (driveReply _ (takeOrder s.toStation)) = true from hopen, whenDue_true]
      at hbetween
    cases hwon : wins s.number others with
    | true =>
      rw [beginRecording_afterWon id o.cls c others (driveReply _ (takeOrder s.toStation)) hheld hclaim hstop hwon]
        at hbetween
      have hleft : s.table.pool.erase c = rest := by simp [hpool]
      exact ⟨_, hbetween, rfl, fun _ => ⟨takeInto_get_same c _ _, hleft, _, rfl, rfl, rfl, rfl⟩, nofun⟩
    | false =>
      rw [beginRecording_afterLost id o.cls c others (driveReply _ (takeOrder s.toStation)) hheld hclaim hstop hwon]
        at hbetween
      have hanswers : s.orders.state.answers = true := by rw [hserving]; rfl
      refine ⟨_, hbetween, ?_, nofun, fun _ => ⟨?_, ?_, fun hempty => post_empty _ _ hanswers hempty⟩⟩
      · rw [post_port]
        rfl
      · rw [post_table]
        exact hold_same _ c _
      · rw [post_recorder]
        exact hidle

/-- Settles O31: the layout of the reply, the orders discarded and refused, and the input channel returned. -/
theorem discardEndsTheRecording : Obligations.DiscardEndsTheRecording := by
  refine ⟨finishAcceptWord_layout,
    fun s o station hdue hbody => ⟨fun hother => ?_, fun reason hown hrefused => ?_⟩,
    fun s o r c hdue hbody hcls hr hphase hlow hin => ?_⟩
  · rw [exec_finishDiscard s o hdue station hbody, answer_other _ _ _ (takeOrder s.toStation) hother]
    rfl
  · rw [exec_finishDiscard s o hdue station hbody, finishRefusal_refused s o.cls .discard reason hrefused,
      answer_refused station _ _ (takeOrder s.toStation) hown]
    rfl
  · have hexec := exec_finishDiscard s o hdue _ hbody
    rw [finishRefusal_discard s.toStation o.cls r hcls hr hphase hlow,
      answer_accepted s.number.toNat _ (takeOrder s.toStation) rfl, acceptDiscard_eq (takeOrder s.toStation) r c hr hin]
      at hexec
    refine ⟨_, hexec, returnChannel_leaves Station.recorder (fun _ _ _ => rfl) _ c _, ?_,
      returnChannel_leaves (fun s => s.port.replyOut) (fun _ _ _ => rfl) _ c _, returnChannel_holding _ c _,
      fun d hd => returnChannel_other _ c d _ (Ne.symm hd), returnChannel_leaves Station.tables (fun _ _ _ => rfl) _ c _,
      returnChannel_leaves Station.store (fun _ _ _ => rfl) _ c _,
      returnChannel_leaves Station.engines (fun _ _ _ => rfl) _ c _,
      returnChannel_leaves (fun s => s.orders.latch) (fun _ _ _ => rfl) _ c _⟩
    obtain ⟨t, f, hreturn⟩ := returnChannel_changes (takeOrder s.toStation).table.target c
      { driveReply (finishAcceptWord (takeOrder s.toStation).number false 0) (takeOrder s.toStation) with
        recorder := none }
    rw [hreturn]
    rfl

/-- Settles O35: the FORCE accepted drops every channel on the way into RESTING. -/
theorem forceDropsEverything : Obligations.ForceDropsEverything := by
  intro s o hdue hbody hcls hstate
  obtain ⟨haccepted, htarget⟩ := forceAccepted s.toStation hstate
  have hexec := exec_serviceForce s o hdue _ hbody
  rw [hcls, haccepted, answer_accepted s.number.toNat _ (takeOrder s.toStation) rfl, acceptService, takeOrder_state,
    htarget] at hexec
  exact ⟨_, hexec, rfl, rfl, rfl, fun c => ⟨dropAll_holding c s.toStation, Tbl.get_fill 0 c⟩, rfl, rfl, rfl,
    fun e => by simp [force, dropAll], rfl, rfl, rfl, rfl, rfl, rfl⟩

/-- Settles O40, by the way in of the offer. -/
theorem newOfferIsBound : Obligations.NewOfferIsBound := by
  intro s o word others ho hw hwon hpool
  refine ⟨fun g hway hg hroom => ?_, fun e entry hway he hentry hroom => ?_⟩
  · have hexec := exec_bindNew s o word others ho hw hwon (by simp [Offer.isNew, hway])
    rw [bindNewOffer_tone o (dropOffer s.toStation) g hpool hway hg hroom] at hexec
    exact ⟨_, _, hexec, rfl, takeInto_get_same o.channel _ _, rfl, rfl, rfl, rfl, rfl, rfl, rfl, rfl, rfl,
      takeInto_contention_same o.channel _ _, rfl, fun d hd => hold_other _ o.channel d _ hd, rfl, rfl, rfl⟩
  · have hexec := exec_bindNew s o word others ho hw hwon (by simp [Offer.isNew, hway])
    rw [bindNewOffer_cycle o (dropOffer s.toStation) e entry hpool hway he hentry hroom] at hexec
    refine ⟨_, hexec, rfl, fun x hx => ?_, takeInto_get_same o.channel _ _, ?_, ?_, rfl,
      takeInto_contention_same o.channel _ _, rfl, fun d hd => hold_other _ o.channel d _ hd, rfl, rfl⟩
    · simp [startCycleChannel, bindEngine, Ne.symm hx]
    · simp [startCycleChannel, bindEngine]
    · simp [startCycleChannel, bindEngine, engineAt, Engine.fresh]

/-- Settles O41: the channel is no longer in POOL, so the take is refused with the code in the view. -/
theorem takeAfterLossIsRefused : Obligations.TakeAfterLossIsRefused := by
  intro s o word others code ho hnew hw hwon hgone hstop hview ha hempty
  have hrefused : bindNewOffer o (dropOffer s.toStation) = refuseTake o.channel (dropOffer s.toStation) :=
    if_neg (by simp [hgone])
  rw [exec_bindNew s o word others ho hw hwon hnew, hrefused,
    refuseTake_viewed o.channel (dropOffer s.toStation) code hstop hview, post_answered _ (dropOffer s.toStation) ha,
    dropOffer_orders, take_latches _ s.orders hempty]
  rfl

end Sys2Proof.Proofs
end

/-! HALTED, which only a pin reset ends: no other command's guard lets it through (R51). -/
section
namespace Sys2Proof.Machine

/-- The station is HALTED. -/
def Station.Halted (s : Station) : Prop := s.orders.state = .halted

/-- The station that boundary work is done on is HALTED. -/
def Work.Halted (w : Work) : Prop := w.station.Halted

section
variable {s t : Station} (h : s.Halted)
include h

theorem Station.Halted.same (hstate : t.orders.state = s.orders.state) : t.Halted := hstate.trans h

theorem Station.Halted.whenDue (due : Bool) {f : Station → Station} (hf : due = true → s.Halted → (f s).Halted) :
    (Machine.whenDue due f s).Halted := whenDue_keeps Station.Halted due f s hf h

/-! ### The guards of HALTED -/

/-- A HALTED station acts on no order (R35, R51). -/
theorem Station.Halted.dueOrder : Machine.dueOrder s = none := by
  simp [Machine.dueOrder, actsOnOrders, StationState.answers, show s.orders.state = .halted from h]

theorem Station.Halted.resumes : Machine.resumes s = false := by
  simp [Machine.resumes, show s.orders.state = .halted from h]

theorem Station.Halted.listeningDue : Machine.listeningDue s = false := by
  simp [Machine.listeningDue, show s.orders.state = .halted from h]

theorem Station.Halted.loaderReady : Machine.loaderReady s = s := by
  simp [Machine.loaderReady, show s.orders.state = .halted from h]

theorem Station.Halted.drainCheck : Machine.drainCheck s = s := by
  simp [Machine.drainCheck, show s.orders.state = .halted from h]

theorem Station.Halted.takeFlashByte (b : Byte) : Machine.takeFlashByte b s = s := by
  simp [Machine.takeFlashByte, show s.orders.state = .halted from h]

/-! ### Events that stand the state -/

theorem Station.Halted.post (n : Notice) : (Machine.post n s).Halted := h.same (post_state n s)

theorem Station.Halted.postAll (ns : List Notice) : (Machine.postAll ns s).Halted := h.same (postAll_state ns s)

theorem Station.Halted.stopCapture : (Machine.stopCapture s).Halted :=
  h.same (by cases hr : s.recorder <;> simp [Machine.stopCapture, hr])

theorem Station.Halted.startCapture : (Machine.startCapture s).Halted :=
  h.same (by cases hr : s.recorder <;> simp [Machine.startCapture, hr])

theorem Station.Halted.recorderSample (k : Code) : (Machine.recorderSample k s).Halted := by
  have hrecorder : ∀ r, ({ s with recorder := r } : Station).Halted := fun _ => h
  unfold Machine.recorderSample
  split
  · exact h
  · dsimp only
    split
    · split
      · exact (hrecorder _).whenDue _ fun _ => Station.Halted.startCapture
      · exact h
    · exact ((hrecorder _).whenDue _ fun _ => Station.Halted.stopCapture).whenDue _ fun _ => Station.Halted.stopCapture
    · exact h

/-- Neither a claim settled, nor a channel lost, nor a duplicate identity changes the state at once (R22, R28, R30). -/
theorem Station.Halted.ownerPosition (c : Channel) (others : List OwnerCode) : (Machine.ownerPosition c others s).Halted := by
  refine h.same ?_
  simp only [Machine.ownerPosition]
  split
  · split
    · simp
    · split <;> simp
  · split
    · simp [duplicateIdentity]
    · simp

theorem Station.Halted.samplePosition (c : Channel) (others : Code) : (Machine.samplePosition c others s).Halted := by
  have hcontention : ∀ s : Station, s.Halted → (contentionEvent c s).Halted := fun s h =>
    whenDue_keeps Station.Halted _ _ _ (fun _ h => h.same (loseChannel_state c 15 _)) h
  exact whenDue_keeps Station.Halted _ _ _ (fun _ h => h.recorderSample _)
    (whenDue_keeps Station.Halted _ _ _ (fun _ => hcontention _) h)

theorem Station.Halted.noticePosition (event : NoticeEvent) : (Machine.noticePosition event s).Halted := by
  have hdrive : ∀ {s : Station}, s.Halted → (driveNotice s).Halted := fun {s} h => h.same (by
    unfold driveNotice
    dsimp only
    split <;> rfl)
  have hsettle : ∀ (n : Notice) (won : Bool) {s : Station}, s.Halted → (settleNotice n won s).Halted := fun n won {s} h =>
    whenDue_keeps Station.Halted _ _ _ (fun _ _ => enterHalted_state _) h
  have houtcome : ∀ others {s : Station}, s.Halted → (noticeOutcome others s).Halted := fun others {s} h => by
    unfold noticeOutcome
    split
    · exact hsettle _ _ h
    · exact h
  cases event with
  | whole others => exact h.whenDue _ fun _ h => houtcome others (hdrive h)
  | drive => exact h.whenDue _ fun _ => hdrive
  | outcome others => exact houtcome others h

theorem Station.Halted.refuseTake (c : Channel) : (Machine.refuseTake c s).Halted := by
  unfold Machine.refuseTake
  split
  · exact h
  · exact h.post _

theorem Station.Halted.bindExisting (others : List Word) : (Machine.bindExisting others s).Halted := by
  refine h.same ?_
  unfold Machine.bindExisting
  split
  · split
    · rfl
    · unfold bindToChannel
      split <;> rfl
  · rfl

theorem Station.Halted.bindNew (others : List Word) : (Machine.bindNew others s).Halted := by
  unfold Machine.bindNew
  split
  · split
    · unfold bindNewOffer
      split
      · split
        · exact h.same (by rw [bindNewTone_orders]; rfl)
        · exact h.same (by rw [bindNewCycle_orders]; rfl)
      · exact Station.Halted.refuseTake (s := dropOffer s) h _
    · exact h
  · exact h

theorem Station.Halted.loseOffer (others : List Word) : (Machine.loseOffer others s).Halted := by
  unfold Machine.loseOffer
  split <;> exact h

/-! ### Losses and resets -/

theorem Station.Halted.startLocalFrame : (Machine.startLocalFrame s).Halted := h.same (by simp [Machine.startLocalFrame])

/-- A pulse loss isolates no HALTED station (R49, R51). -/
theorem Station.Halted.pulseLoss : (Machine.pulseLoss s).Halted := by
  refine Station.Halted.startLocalFrame ?_
  split
  · exact enterHalted_state _
  · simp [Station.Halted, OrderUnit.lose, StationState.isolate, show s.orders.state = .halted from h]

/-- A shelf reset takes no HALTED station to LISTENING (R50, R51). -/
theorem Station.Halted.shelfReset : (Machine.shelfReset s).Halted := by
  unfold Machine.shelfReset
  dsimp only
  split
  · exact enterHalted_state _
  · simp [Station.Halted, OrderUnit.breakReset, OrderUnit.clearNotices, show s.orders.state = .halted from h]

theorem Station.Halted.orderPosition (word : Word) : (Machine.orderPosition word s).Halted := by
  have hbreak : (Machine.whenDue (breakDue (countBreak word s)) Machine.shelfReset (countBreak word s)).Halted :=
    Station.Halted.whenDue (s := countBreak word s) h _ fun _ => Station.Halted.shelfReset
  exact (OrderUnit.receive_state _ _).trans hbreak

/-! ### The store step -/

theorem Station.Halted.prepareStep : (Machine.prepareStep s).Halted := by
  have harrive : ∀ {s : Station}, s.Halted → (arrivals s).Halted := fun {s} h => by
    obtain ⟨e, heq⟩ := arrivals_changes s
    exact h.same (by rw [heq])
  have hclose : ∀ {s : Station}, s.Halted → (pendingCloses s).Halted := fun {s} h => by
    obtain ⟨b, heq⟩ := pendingCloses_changes s
    exact h.same (by rw [heq])
  have hload : ∀ {s : Station}, s.Halted → (Machine.loaderReady s).Halted := fun {s} h => by rwa [h.loaderReady]
  have haim : ∀ {s : Station}, s.Halted → (eachEngine reaimEngine s).Halted := fun {s} h => by
    obtain ⟨e, heq⟩ := reaimEngines_changes s
    exact h.same (by rw [heq])
  exact haim (hload (hclose (harrive (h.whenDue _ fun _ => Station.Halted.startLocalFrame))))

/-- Of the commands, only the loader's PUT reaches the order unit, and it is decided in LOADING alone (R133, R176). -/
theorem Station.Halted.performDecision (d : Decision) (hloader : ∀ close, d.cmd ≠ some (.put .loader close)) :
    (Machine.performDecision d s).Halted := by
  refine h.same ?_
  cases hcmd : d.cmd with
  | none => simp [Machine.performDecision, hcmd]
  | some cmd =>
    simp only [Machine.performDecision, hcmd]
    cases cmd with
    | fetch e close =>
      obtain ⟨es, st, heq, -⟩ := doFetch_changes e close { s with store := { s.store with work := d.work } }
      simp [performCmd, heq]
    | put who close =>
      cases who with
      | engine e => rfl
      | recorder =>
        simp only [performCmd, doPut]
        split
        · rfl
        · obtain ⟨r, t, heq⟩ := recorderPut_changes (writeBurst _ close _ { s with store := { s.store with work := d.work } })
          rw [heq]
          rfl
      | loader => exact absurd hcmd (hloader close)
    | openRow b row => rfl
    | close b => rfl
    | renew => rfl
    | setup n => rfl
    | selfRenewEntry => rfl
    | selfRenewExit => rfl

theorem Station.Halted.wrapEngines : (Machine.wrapEngines s).Halted :=
  h.same (wrapEngines_leaves (fun s => s.orders.state) (fun _ _ => rfl) s)

theorem Station.Halted.decideAndCarry : (Machine.decideAndCarry s).Halted := by
  rw [Station.Halted, decideAndCarry_part (fun s => s.orders.state) (fun _ _ => rfl) (fun _ _ => rfl) s _ rfl]
  exact h.wrapEngines.performDecision _ fun close hput => by
    have hloading := decideStep_loaderPut _ close hput
    rw [show (Machine.wrapEngines s).orders.state = .halted from h.wrapEngines] at hloading
    cases hloading

theorem Station.Halted.wholeStep : (Machine.wholeStep s).Halted := by
  have hclose : ∀ {s : Station}, s.Halted → (closeStep s).Halted := fun h =>
    h.same (closeStep_part (fun s => s.orders.state) (fun _ _ _ => rfl) _)
  unfold Machine.wholeStep
  dsimp only
  split
  · exact hclose h.prepareStep.wrapEngines
  · exact hclose h.prepareStep.decideAndCarry

theorem Station.Halted.issueNow (cmd : StoreCmd) : (Machine.issueNow cmd s).Halted := by
  unfold Machine.issueNow
  split
  · exact h.prepareStep.decideAndCarry
  · exact h

theorem Station.Halted.issuePut (close : Bool) : (Machine.issuePut close s).Halted := by
  unfold Machine.issuePut
  split
  · split
    · exact h.issueNow _
    · exact h
  · exact h

theorem Station.Halted.issueSetup : (Machine.issueSetup s).Halted := by
  unfold Machine.issueSetup
  split
  · exact h.issueNow _
  · exact h

/-! ### The frame pulse -/

omit h in
theorem Work.Halted.next {v w : Work} (h : w.Halted) (horders : v.station.orders = w.station.orders) : v.Halted :=
  (congrArg OrderUnit.state horders).trans h

omit h in
@[simp] theorem startSearch_orders (s : Station) : (startSearch s).orders = s.orders := by
  unfold startSearch
  split <;> rfl

theorem Station.Halted.boundaryWork (resumed : Bool) : (Machine.boundaryWork resumed s).Halted := by
  have hbegin : (Work.begin { s with table := s.table.atBoundary }).Halted := h
  have hchannels := eachChannel_keeps Work.Halted cycleBoundary (fun c w h => h.next (cycleBoundary_orders c w)) _
    (eachChannel_keeps Work.Halted toneBoundary (fun c w h => h.next (toneBoundary_orders c w)) _ hbegin)
  have hlistening : ∀ {w : Work}, w.Halted → (listeningBoundary w).Halted := fun {w} h => by
    simpa [listeningBoundary, show w.station.orders.state = .halted from h] using h
  have hsearch : ∀ {w : Work}, w.Halted → Work.Halted { monitorBoundary w with
      station := startSearch (monitorBoundary w).station } := fun {w} h => by
    obtain ⟨m, ps, heq⟩ := monitorBoundary_changes w
    exact h.next (by rw [startSearch_orders, heq])
  unfold Machine.boundaryWork
  dsimp only
  split
  · exact hsearch hchannels
  · exact hlistening (hsearch hchannels)

theorem Station.Halted.boundaryBefore (isBoundary resumed : Bool) : (Machine.boundaryBefore isBoundary resumed s).Halted := by
  unfold Machine.boundaryBefore
  split
  · exact h.boundaryWork resumed
  · exact h

/-- The countdown's step leaves the state, or halts (R51). -/
theorem Station.Halted.startFrame (number : Nat) : (Machine.startFrame number s).Halted := by
  have hcount : (stepCountdown (openFrame number s)).Halted := by
    unfold stepCountdown
    split
    · exact h
    · exact whenDue_keeps Station.Halted _ _ _ (fun _ _ => enterHalted_state _) h
  exact hcount.same (by simp [Machine.startFrame])

theorem Station.Halted.frameWork : (Machine.frameWork s).Halted := by
  have htones : (eachChannel toneFrame s).Halted :=
    eachChannel_keeps Station.Halted _ (fun c s h => h.same (by rw [toneFrame_orders])) s h
  have hrelease : ∀ {s : Station}, s.Halted → (releaseAndStart s).Halted := fun {s} h => by
    rcases releaseAndStart_cases s with heq | heq <;> exact h.same (by simp [heq])
  have hclaim : ∀ {s : Station}, s.Halted → (claim s).Halted := fun {s} h => by
    unfold claim
    split <;> exact h
  have hage : ∀ {s : Station}, s.Halted → (ageBackOff s).Halted := fun h => h
  have hclaimed := hclaim (hrelease (hage htones))
  rw [Machine.frameWork, hclaimed.drainCheck]
  exact hclaimed

theorem Station.Halted.playAll : (Machine.playAll s).Halted := by
  have hplay := eachChannel_keeps Work.Halted playFrame (fun c w h => h.next (playFrame_orders c w)) (Work.begin s) h
  exact Station.Halted.postAll hplay _

theorem Station.Halted.framePulse (long inStep : Bool) : (Machine.framePulse long inStep s).Halted := by
  have haccept : ∀ {s : Station}, s.Halted → (acceptPulse long s).Halted := fun {s} h => by
    have hstart : ∀ (w : Work) number ps, w.Halted → (Machine.startFrame number (Machine.postAll ps w.station)).Halted :=
      fun w number ps h => Station.Halted.startFrame (Station.Halted.postAll h ps) number
    have hreturn : ∀ target cs {s : Station}, s.Halted → (returnAll target cs s).Halted := fun target cs s h =>
      h.same (by rw [returnAll_orders])
    have hdraw : ∀ n {s : Station}, s.Halted → ({ s with draw := n } : Station).Halted := fun _ _ h => h
    unfold acceptPulse
    dsimp only
    rw [h.resumes]
    exact hdraw _ (hreturn _ _ (hstart _ _ _ (h.boundaryBefore _ _))).frameWork.playAll
  unfold Machine.framePulse
  split
  · exact h
  · exact haccept (h.whenDue _ fun _ => Station.Halted.wholeStep)

end

/-! ### Every command -/

section
variable {s t : State}

theorem run_halted {f : Station → Station} (hrun : s.run f = .next t) (hf : (f s.toStation).Halted) :
    t.toStation.Halted := by
  rw [State.run_next s t f hrun]
  exact hf

variable (h : s.toStation.Halted)
include h

theorem runChannel_halted {c : Nat} {f : Channel → Station → Station} (hrun : s.runChannel c f = .next t)
    (hf : ∀ c {s : Station}, s.Halted → (f c s).Halted) : t.toStation.Halted := by
  obtain ⟨hc, rfl⟩ := State.runChannel_next s t c f hrun
  exact hf _ h

theorem runBank_halted {b : Nat} {f : Fin 8 → Station → Station} (hrun : s.runBank b f = .next t)
    (hf : ∀ b {s : Station}, s.Halted → (f b s).Halted) : t.toStation.Halted := by
  obtain ⟨hb, rfl⟩ := State.runBank_next s t b f hrun
  exact hf _ h

theorem runEngine_halted {e : Nat} {f : Fin 16 → Station → Station} (hrun : s.runEngine e f = .next t)
    (hf : ∀ e {s : Station}, s.Halted → (f e s).Halted) : t.toStation.Halted := by
  obtain ⟨he, rfl⟩ := State.runEngine_next s t e f hrun
  exact hf _ h

/-- A meaning that acts on the order due alone leaves a HALTED station. -/
theorem runDue_halted {f : Station → Station} (hrun : s.run f = .next t)
    (hf : dueOrder s.toStation = none → f s.toStation = s.toStation) : t.toStation.Halted :=
  run_halted hrun (by rwa [hf h.dueOrder])

/-- The work of a channel's event leaves the state, its notices posted and its channels returned. -/
theorem runWork_halted {c : Nat} {due : Channel → Station → Bool} {f : Channel → Work → Work}
    (hrun : s.runChannel c (fun c s => whenDue (due c s) (fun s => (f c (Work.begin s)).finish) s) = .next t)
    (hf : ∀ c w, (f c w).station.orders = w.station.orders) : t.toStation.Halted :=
  runChannel_halted h hrun fun c _ h => h.whenDue _ fun _ h => h.same (by rw [Work.finish_state, hf]; rfl)

/-- Every command but PIN_RESET leaves a HALTED station HALTED. -/
theorem exec_halted {i : Instr} (hreset : isPinReset i = false) (hexec : exec i s = .next t) : t.toStation.Halted := by
  cases i with simp only [exec] at hexec
  | pinReset pins => cases hreset
  | framePulse pulse => exact run_halted hexec (h.framePulse _ _)
  | pulseLoss => exact run_halted hexec (h.whenDue _ fun _ => Station.Halted.pulseLoss)
  | localFrame => exact run_halted hexec (h.whenDue _ fun _ => Station.Halted.startLocalFrame)
  | storeStep => exact run_halted hexec (h.wholeStep.whenDue _ fun _ => Station.Halted.pulseLoss)
  | ownerPosition n others =>
    exact runChannel_halted h hexec fun c _ h => h.whenDue _ fun _ h => h.ownerPosition c others
  | samplePosition n others =>
    exact runChannel_halted h hexec fun c _ h => h.whenDue _ fun _ h => h.samplePosition c others
  | contentionSurrender n =>
    exact runChannel_halted h hexec fun c _ h => h.whenDue _ fun _ h => h.same (loseChannel_state c 15 _)
  | orderPosition word => exact run_halted hexec (h.whenDue _ fun _ h => h.orderPosition word)
  | shelfReset => exact run_halted hexec (h.whenDue _ fun _ => Station.Halted.shelfReset)
  | join => exact runDue_halted h hexec fun hnone => by simp [joinPosition, hnone]
  | leave => exact runDue_halted h hexec fun hnone => by simp [leavePosition, hnone]
  | probe => exact runDue_halted h hexec fun hnone => by simp [probePosition, hnone]
  | record between => exact runDue_halted h hexec fun hnone => by simp [recordPosition, hnone]
  | finishCommit => exact runDue_halted h hexec fun hnone => by simp [finishPosition, hnone]
  | finishDiscard => exact runDue_halted h hexec fun hnone => by simp [finishPosition, hnone]
  | serviceDrain => exact runDue_halted h hexec fun hnone => by simp [servicePosition, hnone]
  | serviceForce => exact runDue_halted h hexec fun hnone => by simp [servicePosition, hnone]
  | serviceReturn => exact runDue_halted h hexec fun hnone => by simp [servicePosition, hnone]
  | serviceNone => exact runDue_halted h hexec fun hnone => by simp [servicePosition, hnone]
  | noticePosition event => exact run_halted hexec (h.noticePosition event)
  | bindExisting others => exact run_halted hexec (h.bindExisting others)
  | bindNew others => exact run_halted hexec (h.bindNew others)
  | offerLost others => exact run_halted hexec (h.loseOffer others)
  | backOffExpiry n => exact runChannel_halted h hexec fun c _ h => h.whenDue _ fun _ h => h
  | stepExpiry n =>
    refine runChannel_halted h hexec fun c s h => h.whenDue _ fun _ h => h.same ?_
    unfold expireStep
    split <;> rfl
  | toneQuietExpiry n => exact runWork_halted h hexec expireTone_orders
  | cycleQuietExpiry n => exact runWork_halted h hexec expireCycle_orders
  | audioEnd n => exact runWork_halted h hexec endAudio_orders
  | startBoundary n => exact runWork_halted h hexec startCycle_orders
  | gradeFall => exact run_halted hexec (h.whenDue _ fun _ h => h.same (post_state _ _))
  | listeningComplete => exact run_halted hexec (by rw [h.listeningDue]; exact h)
  | haltCountdownEnd => exact run_halted hexec (h.whenDue _ fun _ _ => enterHalted_state _)
  | openRow b row =>
    unfold execOpen at hexec
    split at hexec
    · exact runBank_halted h hexec fun _ _ h => h.issueNow _
    · cases hexec
  | fetch n => exact runEngine_halted h hexec fun _ _ h => h.issueNow _
  | fetchClose n => exact runEngine_halted h hexec fun _ _ h => h.issueNow _
  | put => exact run_halted hexec (h.issuePut _)
  | putClose => exact run_halted hexec (h.issuePut _)
  | close b => exact runBank_halted h hexec fun _ _ h => h.issueNow _
  | renew => exact run_halted hexec (h.issueNow _)
  | setup => exact run_halted hexec h.issueSetup
  | selfRenewEntry => exact run_halted hexec (h.issueNow _)
  | selfRenewExit => exact run_halted hexec (h.issueNow _)
  | pendingClose b => exact runBank_halted h hexec fun _ _ h => h.whenDue _ fun _ h => h
  | storeQuietEnd => exact run_halted hexec (h.whenDue _ fun _ h => h)
  | fetchDataArrival =>
    obtain ⟨e, heq⟩ := arrivals_changes s.toStation
    exact run_halted hexec (h.whenDue _ fun _ h => h.same (by rw [heq]))
  | renewDebtRise => exact run_halted hexec (h.whenDue _ fun _ h => h)
  | captureStart => exact run_halted hexec (h.whenDue _ fun _ => Station.Halted.startCapture)
  | endSilenceStop => exact run_halted hexec (h.whenDue _ fun _ => Station.Halted.stopCapture)
  | fullAreaStop => exact run_halted hexec (h.whenDue _ fun _ => Station.Halted.stopCapture)
  | flashByte byte => exact run_halted hexec (by rwa [h.takeFlashByte])

end

end Sys2Proof.Machine

namespace Sys2Proof.Proofs
open Sys2Proof Sys2Proof.Machine

/-- Settles O56, by the front command: none but a pin reset ends HALTED. -/
theorem haltedUntilPinReset : Obligations.HaltedUntilPinReset := by
  intro s t hs hfront hstep
  unfold step at hstep
  split at hstep
  next =>
    cases hstep
    exact hs
  next command rest hpending => exact exec_halted (s := { s with pending := rest }) hs (hfront command rest hpending) hstep

end Sys2Proof.Proofs
end

/-! The reply positions of JOIN, LEAVE and PROBE: which outcome comes of which order, and the words driven (sections 3.2
and 13.2). -/
section
namespace Sys2Proof.Machine

/-! ### The words driven (R179) -/

theorem bidWord_hasFields (degraded : Bool) (bid : Nat) (station : BitVec 4) (c : Channel) (delay : Nat) :
    hasFields (bidWord degraded bid station c.val delay) (if degraded then 1 else 0) (bid % 256) station c.val
      (delay % 4096) := by
  have hresult : (if degraded then 1#2 else 0#2).toNat = if degraded then 1 else 0 := by cases degraded <;> rfl
  have hword : (bidWord degraded bid station c.val delay).toNat = 1073741824 * (if degraded then 1 else 0)
      + 4194304 * (bid % 256) + 262144 * station.toNat + 4096 * c.val + delay % 4096 := by
    simp only [bidWord, toNat_append_eq_add, BitVec.toNat_ofNat, hresult]
    omega
  have hstation := station.isLt
  simp only [hasFields, bits, hword]
  split <;> omega

theorem stateNumber_eq (st : StationState) : stateNumber st = st.code := by cases st <;> rfl

theorem stateNumber_lt (st : StationState) : stateNumber st < 5 := by cases st <;> decide

theorem toNat_flag (b : Bool) : (flag b).toNat = b.toNat := by cases b <;> rfl

theorem probeWord_toNat (station : BitVec 4) (st : StationState) (grade pool free debt : Nat) (missed : Tbl 7 Bool)
    (active : Bool) : (probeWord station st grade pool free debt missed active).toNat =
      134217728 * stateNumber st + 33554432 * (grade % 4) + 4194304 * (pool % 8) + 262144 * station.toNat
      + 8192 * (free % 32) + 512 * (debt % 16) + 128 * (missed.get 1).toNat + 64 * (missed.get 2).toNat
      + 32 * (missed.get 3).toNat + 16 * (missed.get 4).toNat + 8 * (missed.get 5).toNat + 4 * (missed.get 6).toNat
      + 2 * active.toNat + 1 := by
  have hstate := stateNumber_lt st
  rw [stateNumber_eq] at *
  simp only [probeWord, toNat_append_eq_add, BitVec.toNat_ofNat, toNat_flag]
  omega

/-- The PROBE reply has its fields at the bits of section 13.2 (R179). -/
theorem probeWord_layout (station : BitVec 4) (st : StationState) (grade pool free debt : Nat) (missed : Tbl 7 Bool)
    (active : Bool) :
    ProbeLayout (probeWord station st grade pool free debt missed active) station st grade pool free debt missed active := by
  have hstate := stateNumber_lt st
  have hstation := station.isLt
  have hmark := fun k => Bool.toNat_le (missed.get k)
  have h1 := hmark 1
  have h2 := hmark 2
  have h3 := hmark 3
  have h4 := hmark 4
  have h5 := hmark 5
  have h6 := hmark 6
  have hactive := Bool.toNat_le active
  constructor
  case missed =>
    intro k hk
    simp only [bits, probeWord_toNat, ← Bool.toNat_eq_one]
    fin_cases k
    · exact absurd rfl hk
    all_goals
      simp only [Fin.reduceFinMk, Fin.isValue, Nat.reduceSub, Nat.reduceAdd, Nat.reducePow]
      omega
  case recorder =>
    simp only [bits, probeWord_toNat, ← Bool.toNat_eq_one]
    omega
  all_goals
    simp only [bits, probeWord_toNat]
    omega

/-! ### Which order is due (R36) -/

section
variable (s : State) (o : Order) (hdue : dueOrder s.toStation = some o)
include hdue

theorem exec_join (signal : Nat) (mode : Mode) (noSubstitute : Bool) (hbody : o.body = .join signal mode noSubstitute) :
    exec .join s = .next ⟨joinReply o signal mode noSubstitute (takeOrder s.toStation), s.pending⟩ := by
  simp [exec, execJoin, joinPosition, hdue, hbody]

theorem exec_leave (n : Nat) (hbody : o.body = .leave n) :
    exec .leave s = .next ⟨applyLeave n o.tag (takeOrder s.toStation), s.pending⟩ := by
  simp [exec, execLeave, leavePosition, hdue, hbody]

theorem exec_leave_channel (c : Channel) (hbody : o.body = .leave c.val) :
    exec .leave s = .next ⟨leaveChannel o.tag c (takeOrder s.toStation), s.pending⟩ := by
  simp [exec_leave s o hdue c.val hbody, applyLeave]

theorem exec_probe (station : Nat) (hbody : o.body = .probe station) :
    exec .probe s = .next ⟨answer station none probeReply (takeOrder s.toStation), s.pending⟩ := by
  simp [exec, execProbe, probePosition, hdue, hbody]

end

/-! ### JOIN (R39, R66) -/

theorem joinReply_weighed (o : Order) (signal : Nat) (mode : Mode) (noSubstitute : Bool) (s : Station)
    (h : s.orders.state = .serving) : joinReply o signal mode noSubstitute s =
      makeBid (weighJoin s o.cls o.tag signal mode noSubstitute) s := if_pos h

theorem joinReply_undriven (o : Order) (signal : Nat) (mode : Mode) (noSubstitute : Bool) (s : Station)
    (h : s.orders.state ≠ .serving ∨ weighJoin s o.cls o.tag signal mode noSubstitute = none) :
    joinReply o signal mode noSubstitute s = s := by
  by_cases hserving : s.orders.state = .serving
  · rw [joinReply_weighed o signal mode noSubstitute s hserving, h.resolve_left (not_not.mpr hserving), makeBid]
  · exact if_neg hserving

/-! ### LEAVE (R40, R80, R101) -/

theorem leaveChannel_tone (tag : BitVec 8) (c : Channel) (s : Station) (r : ToneRecord)
    (h : s.table.holding.get c = .tone r) : leaveChannel tag c s =
      if r.listeners = 0 then s
      else if r.listeners - 1 = 0 ∧ r.standing = false then
        ((Work.begin (setHolding c
          (.tone { r with listeners := r.listeners - 1, quiet := s.tables.quietPeriod }) s)).endService c).finish
      else setHolding c (.tone { r with listeners := r.listeners - 1, quiet := s.tables.quietPeriod }) s := by
  simp [leaveChannel, toneLeave, h]

theorem leaveChannel_cycle (tag : BitVec 8) (c : Channel) (s : Station) (r : CycleRecord)
    (h : s.table.holding.get c = .cycle r) :
    leaveChannel tag c s = setHolding c (.cycle (r.leave tag s.tables.quietPeriod)) s := by
  simp [leaveChannel, cycleLeave, h]

theorem leaveChannel_unmatched (tag : BitVec 8) (c : Channel) (s : Station)
    (h : s.table.holding.get c = .none ∨ s.table.holding.get c = .pool ∨ s.table.holding.get c = .record) :
    leaveChannel tag c s = s := by
  rcases h with h | h | h <;> simp [leaveChannel, h]

/-- The oldest pending record of the tag is removed (R80). -/
theorem CycleRecord.leave_pending (r : CycleRecord) (tag : BitVec 8) (quietPeriod : Nat)
    (before after : List PendingJoin) (p : PendingJoin) (hwaiting : r.waiting = before ++ p :: after)
    (htag : p.tag = tag) (hbefore : ∀ q ∈ before, q.tag ≠ tag) :
    r.leave tag quietPeriod = { r with waiting := before ++ after, quiet := quietPeriod } := by
  have hremove : removeTag tag r.waiting = before ++ after := by
    rw [removeTag, hwaiting, List.eraseP_append_right _ fun q hq => by simpa using hbefore q hq]
    simp [htag]
  have hany : (r.waiting.any fun p => p.tag == tag) = true := by simp [hwaiting, htag]
  rw [CycleRecord.leave, if_pos hany, hremove]

/-- With no pending record of the tag, a listener is taken off, where there is one (R80). -/
theorem CycleRecord.leave_listener (r : CycleRecord) (tag : BitVec 8) (quietPeriod : Nat)
    (hnone : ∀ q ∈ r.waiting, q.tag ≠ tag) : r.leave tag quietPeriod =
      if r.listeners = 0 then r else { r with listeners := r.listeners - 1, quiet := quietPeriod } := by
  have hany : (r.waiting.any fun p => p.tag == tag) = false := by simpa using hnone
  simp [CycleRecord.leave, hany]

/-! ### A channel whose service ends (R26, R85, R102) -/

theorem returnChannel_pool (target : Nat) (c : Channel) (s : Station) : (returnChannel target c s).table.pool =
    if s.table.pool.length < target then s.table.pool ++ [c] else s.table.pool := by
  simp only [returnChannel]
  split <;> rfl

section
variable (c : Channel) (s : Station) (ps : List Notice)

theorem postAll_channels (t : ChannelTable) (f : Tbl 48 (Option Code)) :
    postAll ps { s with table := t, formed := f } = { postAll ps s with table := t, formed := f } := by
  induction ps generalizing s with
  | nil => rfl
  | cons n rest ih =>
    have hpost : post n { s with table := t, formed := f } = { post n s with table := t, formed := f } := by
      unfold post
      split <;> rfl
    simp only [postAll, List.foldl_cons] at ih ⊢
    rw [hpost, ih]

/-- A channel whose service ends is returned against the frame's target, its notices posted first. -/
theorem finish_endService : (Work.endService c ⟨s, ps, []⟩).finish = returnChannel s.table.target c
    { postAll ps s with table := s.table.hold c .none, formed := s.formed.put c none } := by
  rw [← postAll_channels]
  simp [Work.endService, Work.finish, returnAll, ChannelTable.hold]

theorem finish_endService_changes : ∃ t f, (Work.endService c ⟨s, ps, []⟩).finish =
    { s with table := t, orders := (postAll ps s).orders, formed := f } := by
  obtain ⟨t, f, hreturn⟩ := returnChannel_changes s.table.target c
    { postAll ps s with table := s.table.hold c .none, formed := s.formed.put c none }
  obtain ⟨l, m, d, hpost⟩ := postAll_changes ps s
  exact ⟨t, f, by rw [finish_endService, hreturn, hpost]⟩

theorem finish_endService_holding : (Work.endService c ⟨s, ps, []⟩).finish.table.holding.get c =
    if s.table.pool.length < s.table.target then .pool else .none := by
  rw [finish_endService, returnChannel_holding]
  rfl

theorem finish_endService_pool : (Work.endService c ⟨s, ps, []⟩).finish.table.pool =
    if s.table.pool.length < s.table.target then s.table.pool ++ [c] else s.table.pool := by
  rw [finish_endService, returnChannel_pool]
  rfl

theorem finish_endService_other (d : Channel) (hd : d ≠ c) :
    (Work.endService c ⟨s, ps, []⟩).finish.table.holding.get d = s.table.holding.get d := by
  rw [finish_endService, returnChannel_other _ c d _ (Ne.symm hd), hold_other _ c d _ hd]

end

end Sys2Proof.Machine

namespace Sys2Proof.Proofs
open Sys2Proof Sys2Proof.Machine

/-- Settles O19: the layout of the bid, and the weighing in SERVING alone. -/
theorem joinIsWeighedInServing : Obligations.JoinIsWeighedInServing := by
  refine ⟨fun o station => bidWord_hasFields o.degraded o.bid station o.channel o.delay,
    fun s o signal mode flag hdue hbody => ⟨fun x hserving hoffer => ?_, fun hnone => ?_⟩⟩
  · rw [exec_join s o hdue signal mode flag hbody,
      joinReply_weighed o signal mode flag (takeOrder s.toStation) hserving, hoffer]
    rfl
  · rw [exec_join s o hdue signal mode flag hbody, joinReply_undriven o signal mode flag (takeOrder s.toStation) hnone]
    rfl

/-- Settles O26, by the listeners that the LEAVE finds. -/
theorem leaveTakesAToneListenerOff : Obligations.LeaveTakesAToneListenerOff := by
  refine ⟨fun s o n hdue hbody hunmatched => ?_, fun s o c r hdue hbody hr => ⟨fun hnone => ?_, fun hstays => ?_,
    fun hlast hordinary => ?_⟩⟩
  · rcases hunmatched with hn | ⟨c, rfl, hheld⟩
    · rw [exec_leave s o hdue n hbody, applyLeave, dif_neg (Nat.not_lt.mpr hn)]
      rfl
    · rw [exec_leave_channel s o hdue c hbody, leaveChannel_unmatched o.tag c (takeOrder s.toStation) hheld]
      rfl
  · rw [exec_leave_channel s o hdue c hbody, leaveChannel_tone o.tag c (takeOrder s.toStation) r hr, if_pos hnone]
    rfl
  · rw [exec_leave_channel s o hdue c hbody, leaveChannel_tone o.tag c (takeOrder s.toStation) r hr, if_neg, if_neg]
    · rfl
    · rintro ⟨hlast, hordinary⟩
      rcases hstays with hmore | ⟨-, hstanding⟩
      · omega
      · simp [hstanding] at hordinary
    · omega
  · have hexec := exec_leave_channel s o hdue c hbody
    rw [leaveChannel_tone o.tag c (takeOrder s.toStation) r hr, if_neg (by omega), if_pos ⟨by omega, hordinary⟩]
      at hexec
    obtain ⟨table, formed, hchanges⟩ := finish_endService_changes c (setHolding c (.tone
      { r with listeners := r.listeners - 1, quiet := s.tables.quietPeriod }) (takeOrder s.toStation)) []
    refine ⟨_, hexec, ?_, congrArg Station.orders hchanges, finish_endService_holding c _ [],
      finish_endService_pool c _ [], fun d hd => ?_⟩
    · rw [Work.begin, takeOrder_tables, hchanges]
      rfl
    · exact (finish_endService_other c _ [] d hd).trans (setHolding_get_ne c d _ (takeOrder s.toStation) (Ne.symm hd))

/-- Settles O27: the oldest pending record of the tag goes first, then a listener. -/
theorem leaveWithdrawsACycleCaller : Obligations.LeaveWithdrawsACycleCaller := by
  intro s o c r hdue hbody hr
  have hexec := exec_leave_channel s o hdue c hbody
  rw [leaveChannel_cycle o.tag c (takeOrder s.toStation) r hr, takeOrder_tables] at hexec
  refine ⟨fun before p after hwaiting htag hbefore => ?_, fun hnone hlisteners => ?_, fun hnone hlisteners => ?_⟩
  · rw [hexec, r.leave_pending o.tag s.tables.quietPeriod before after p hwaiting htag hbefore]
    rfl
  · rw [hexec, r.leave_listener o.tag s.tables.quietPeriod hnone, if_neg (by omega)]
    rfl
  · rw [hexec, r.leave_listener o.tag s.tables.quietPeriod hnone, if_pos hlisteners]
    rfl

/-- Settles O28: the layout of the reply, and the PROBE answered or discarded. -/
theorem probeReportsTheCondition : Obligations.ProbeReportsTheCondition := by
  refine ⟨probeWord_layout, fun s o station hdue hbody => ⟨fun hown => ?_, fun hother => ?_⟩⟩
  · rw [exec_probe s o hdue station hbody, answer_accepted station _ (takeOrder s.toStation) hown]
    rfl
  · rw [exec_probe s o hdue station hbody, answer_other station _ _ (takeOrder s.toStation) hother]
    rfl

end Sys2Proof.Proofs
end

/-! The reply positions of SERVICE, and the ways into HALTED (section 3.3). -/
section
namespace Sys2Proof.Machine

/-! ### SERVICE (R37, R44 to R48) -/

/-- The SERVICE accept form has its fields at the bits of section 13.2 (R179). -/
theorem serviceAcceptWord_hasFields (station : BitVec 4) (st : StationState) :
    hasFields (serviceAcceptWord station st) 0 (32 * stateNumber st + 31) station 63 4095 := by
  have hstate := stateNumber_lt st
  have hword : (serviceAcceptWord station st).toNat =
      134217728 * stateNumber st + 130023424 + 262144 * station.toNat + 262143 := by
    rw [stateNumber_eq] at *
    simp only [serviceAcceptWord, toNat_append_eq_add, BitVec.toNat_ofNat]
    omega
  have hstation := station.isLt
  simp only [hasFields, bits, hword]
  omega

/-- What an accepted SERVICE of each action does (R44, R46, R47); action code 3 is never accepted (R48). -/
def serviceAct (action : ServiceAction) : Station → Station :=
  match action with
  | .drain => drain
  | .force => force
  | .back => bringBack
  | .none => id

section
variable (s : State) (o : Order) (hdue : dueOrder s.toStation = some o)
include hdue

theorem exec_service (station : Nat) (action : ServiceAction) (hbody : o.body = .service station action) :
    exec (serviceCommand action) s = .next ⟨answer station (serviceRefusal s.toStation o.cls action)
      (acceptService action (serviceAct action)) (takeOrder s.toStation), s.pending⟩ := by
  have hposition : servicePosition action (serviceAct action) s.toStation =
      answer station (serviceRefusal s.toStation o.cls action) (acceptService action (serviceAct action))
        (takeOrder s.toStation) := by
    simp [servicePosition, hdue, hbody]
  rw [← hposition]
  cases action <;> rfl

/-- A SERVICE addressed to the station, in a pair of action and state that is accepted, acts after its reply (R37). -/
theorem exec_service_accepted (action : ServiceAction) (st : StationState)
    (hbody : o.body = .service s.number.toNat action) (hcls : 2 ≤ o.cls) (hforce : action ≠ .force)
    (htarget : serviceTarget s.orders.state action = some st) :
    exec (serviceCommand action) s = .next ⟨serviceAct action
      (driveReply (serviceAcceptWord s.number st) (takeOrder s.toStation)), s.pending⟩ := by
  have haccepted : serviceRefusal s.toStation o.cls action = none := by
    simp [serviceRefusal, Nat.not_lt.mpr hcls, hforce, htarget]
  rw [exec_service s o hdue _ action hbody, haccepted, answer_accepted s.number.toNat _ (takeOrder s.toStation) rfl,
    acceptService, takeOrder_state, htarget]
  rfl

end

/-- The checks of a SERVICE, in the order of R37: CLASS before STATE. -/
theorem serviceRefusal_refused (s : Station) (cls : Nat) (action : ServiceAction) (reason : Reason)
    (h : (reason = .cls ∧ (cls < 2 ∨ (action = .force ∧ cls < 3)))
      ∨ (reason = .state ∧ 2 ≤ cls ∧ (action = .force → 3 ≤ cls) ∧ serviceTarget s.orders.state action = none)) :
    serviceRefusal s cls action = some reason := by
  rcases h with ⟨rfl, hlow | ⟨hforce, hlow⟩⟩ | ⟨rfl, hcls, hforce, hnone⟩
  · simp [serviceRefusal, hlow]
  · simp [serviceRefusal, hforce, hlow]
  · have hclass : ¬ (action = .force ∧ cls < 3) := fun ⟨hf, hlow⟩ => absurd (hforce hf) (Nat.not_le.mpr hlow)
    simp [serviceRefusal, Nat.not_lt.mpr hcls, hclass, hnone]

/-! ### DRAIN (R44, R105) -/

/-- Work of every channel, each on its own holding alone: the channels do not meet. -/
theorem eachChannel_holding (f : Channel → Station → Station) (g : Holding → Holding)
    (hown : ∀ c s, (f c s).table.holding.get c = g (s.table.holding.get c))
    (hother : ∀ c d s, d ≠ c → (f c s).table.holding.get d = s.table.holding.get d) (s : Station) (d : Channel) :
    (eachChannel f s).table.holding.get d = g (s.table.holding.get d) := by
  have hlist : ∀ (l : List Channel) (s : Station), l.Nodup → (l.foldl (fun s c => f c s) s).table.holding.get d =
      if d ∈ l then g (s.table.holding.get d) else s.table.holding.get d := by
    intro l
    induction l with
    | nil => intro s _; rfl
    | cons c rest ih =>
      intro s hnodup
      obtain ⟨hc, hrest⟩ := List.nodup_cons.mp hnodup
      rw [List.foldl_cons, ih (f c s) hrest]
      by_cases hd : d = c
      · subst hd
        rw [if_neg hc, if_pos List.mem_cons_self, hown]
      · simp only [List.mem_cons, hd, false_or, hother c d s hd]
  rw [eachChannel, hlist (numbers 48) s (List.nodup_finRange 48), numbers, if_pos (List.mem_finRange d)]

/-- What entering DRAINING makes of a holding (R105). -/
def Holding.drained (h : Holding) : Holding :=
  match h with
  | .tone r => if r.standing then (if r.listeners = 0 then .none else .tone { r with standing := false }) else .tone r
  | h => h

theorem drainStanding_own (c : Channel) (s : Station) :
    (drainStanding c s).table.holding.get c = (s.table.holding.get c).drained := by
  cases hh : s.table.holding.get c with
  | tone r =>
    simp only [drainStanding, hh, Holding.drained]
    split
    · split
      · simp [returnChannel_holding]
      · simp [markStanding, hh]
    · exact hh
  | none => simp [drainStanding, hh, Holding.drained]
  | pool => simp [drainStanding, hh, Holding.drained]
  | cycle r => simp [drainStanding, hh, Holding.drained]
  | record => simp [drainStanding, hh, Holding.drained]

/-- A channel drained is returned against no target, marked afresh, or left (R105). -/
theorem drainStanding_cases (c : Channel) (s : Station) : drainStanding c s = returnChannel 0 c s
    ∨ (∃ h, drainStanding c s = setHolding c h s) ∨ drainStanding c s = s := by
  unfold drainStanding
  split
  next r hr =>
    split
    · split
      · exact .inl rfl
      · exact .inr (.inl ⟨.tone { r with standing := false }, by simp only [markStanding, hr]⟩)
    · exact .inr (.inr rfl)
  next => exact .inr (.inr rfl)

theorem drainStanding_other (c d : Channel) (s : Station) (hd : d ≠ c) :
    (drainStanding c s).table.holding.get d = s.table.holding.get d := by
  rcases drainStanding_cases c s with h | ⟨x, h⟩ | h <;> rw [h]
  · exact returnChannel_other 0 c d s (Ne.symm hd)
  · exact setHolding_get_ne c d x s (Ne.symm hd)

theorem drainStanding_pool (c : Channel) (s : Station) : (drainStanding c s).table.pool = s.table.pool := by
  rcases drainStanding_cases c s with h | ⟨x, h⟩ | h <;> rw [h]
  · exact returnChannel_pool 0 c s
  · rfl

theorem drainStanding_changes (c : Channel) (s : Station) :
    ∃ t f, drainStanding c s = { s with table := t, formed := f } := by
  rcases drainStanding_cases c s with h | ⟨x, h⟩ | h <;> rw [h]
  · exact returnChannel_changes 0 c s
  · exact ⟨_, _, rfl⟩
  · exact ⟨_, _, rfl⟩

theorem drainAllStanding_holding (s : Station) (c : Channel) :
    (drainAllStanding s).table.holding.get c = (s.table.holding.get c).drained := by
  rw [drainAllStanding, eachChannel_holding drainStanding Holding.drained drainStanding_own drainStanding_other]

theorem drainAllStanding_pool (s : Station) : (drainAllStanding s).table.pool = s.table.pool := by
  unfold drainAllStanding
  exact eachChannel_leaves (fun s : Station => s.table.pool) drainStanding drainStanding_pool s

theorem drainAllStanding_changes (s : Station) : ∃ t f, drainAllStanding s = { s with table := t, formed := f } := by
  refine eachChannel_keeps (fun t => ∃ x f, t = { s with table := x, formed := f }) drainStanding ?_ s ⟨_, _, rfl⟩
  rintro c t ⟨x, f, rfl⟩
  exact drainStanding_changes c _

/-- No channel drained keeps a standing mark (R105). -/
theorem Holding.drained_tone (h : Holding) (r : ToneRecord) (hr : h.drained = .tone r) : r.standing = false := by
  cases h with
  | tone q =>
    simp only [Holding.drained] at hr
    split at hr
    · split at hr
      · cases hr
      · cases hr
        rfl
    · rename_i hordinary
      cases hr
      simpa using hordinary
  | none => cases hr
  | pool => cases hr
  | cycle q => cases hr
  | record => cases hr

theorem Holding.drained_notTone (h : Holding) (ht : h.isTone = false) : h.drained = h := by
  cases h with
  | tone r => cases ht
  | none => rfl
  | pool => rfl
  | cycle r => rfl
  | record => rfl

/-! ### RETURN (R46, R150) -/

/-- An entry not yet issued is abandoned (R149, R150). -/
theorem Store.signalReturn_work (t : Store) : t.signalReturn.work ≠ .entry := by
  by_cases hentry : t.work = .entry
  · by_cases hdebt : t.debt = 8 <;> simp [Store.signalReturn, hentry, hdebt]
  · simp [Store.signalReturn, hentry]

/-! ### Ways into HALTED (R51) -/

/-- In the halt countdown a FAULT is driven, as outside it (R51, R53). -/
theorem noticeToDrive_fault (s : Station) (n : Notice) (hl : s.orders.latch = some n) (hk : n.kind = .fault) :
    noticeToDrive s = some n := by
  simp [noticeToDrive, hl, hk]

/-- A FAULT driven in the halt countdown halts the station where it wins (R51). -/
theorem noticeOutcome_faultWon (s : Station) (n : Notice) (others : List Word) (hl : s.orders.latch = some n)
    (hk : n.kind = .fault) (hcount : s.orders.countdown ≠ none) (hwon : wins (noticeWord n s.number) others = true) :
    noticeOutcome others (driveNotice s) = enterHalted { s with
      port := { s.port with replyOut := some (noticeWord n s.number) }
      orders := { s.orders with noticeUsed := true, latch := none, driving := none, drivenStands := false } } := by
  obtain ⟨k, hk'⟩ := Option.ne_none_iff_exists'.mp hcount
  simp [driveNotice, noticeToDrive_fault s n hl hk, noticeOutcome, driveReply, settleNotice, hwon, hk, hk']

theorem noticeOpen_of (s : Station) (ht : s.port.timer ≠ none) (ho : s.port.orderSeen = true)
    (hseen : s.orders.seen2 = .noticeMark) (hused : s.orders.noticeUsed = false) : noticeOpen s = true := by
  simp [noticeOpen, replyOpen, pulsePresent_of_timer s ht, ho, hseen, hused]

end Sys2Proof.Machine

namespace Sys2Proof.Proofs
open Sys2Proof Sys2Proof.Machine

/-- Settles O33: the table of the accepted pairs, and the checks in their order. -/
theorem otherServicePairsAreRefused : Obligations.OtherServicePairsAreRefused := by
  intro s o station action hdue hbody
  have hexec := exec_service s o hdue station action hbody
  refine ⟨?_, fun hother => ?_, fun reason hown hrefused => ?_⟩
  · cases action <;> cases s.orders.state <;> rfl
  · rw [hexec, answer_other station _ _ (takeOrder s.toStation) hother]
    rfl
  · rw [hexec, serviceRefusal_refused s.toStation o.cls action reason hrefused,
      answer_refused station _ _ (takeOrder s.toStation) hown]
    rfl

/-- Settles O34: in SERVING each channel is drained for itself; in LISTENING none is held. -/
theorem drainTakesTheStationOut : Obligations.DrainTakesTheStationOut := by
  refine ⟨serviceAcceptWord_hasFields, fun s o hdue hbody hcls => ⟨fun hserving => ?_, fun hlistening => ?_⟩⟩
  · have hexec := exec_service_accepted s o hdue .drain .draining hbody hcls nofun (by rw [hserving]; rfl)
    have hdrain : serviceAct .drain (driveReply (serviceAcceptWord s.number .draining) (takeOrder s.toStation)) =
        drainAllStanding (enterState .draining
          (driveReply (serviceAcceptWord s.number .draining) (takeOrder s.toStation))) := if_pos hserving
    obtain ⟨table, formed, hchanges⟩ := drainAllStanding_changes (enterState .draining
      (driveReply (serviceAcceptWord s.number .draining) (takeOrder s.toStation)))
    have hholding : ∀ c, table.holding.get c = (s.table.holding.get c).drained := fun c => by
      rw [← show (drainAllStanding _).table = table from congrArg Station.table hchanges]
      exact drainAllStanding_holding _ c
    have hpool : table.pool = s.table.pool := by
      rw [← show (drainAllStanding _).table = table from congrArg Station.table hchanges]
      exact drainAllStanding_pool _
    rw [hdrain, hchanges] at hexec
    refine ⟨_, hexec, rfl, rfl, rfl, fun c r hr => ?_, fun c r hr hstanding hnone => ?_,
      fun c r hr hstanding hsome => ?_, fun c r hr hordinary => ?_, fun c htone => ?_, hpool, rfl, rfl, rfl, rfl⟩
    · exact Holding.drained_tone _ r ((hholding c).symm.trans hr)
    · simp [hholding, hr, Holding.drained, hstanding, hnone]
    · simp [hholding, hr, Holding.drained, hstanding, Nat.one_le_iff_ne_zero.mp hsome]
    · simp [hholding, hr, Holding.drained, hordinary]
    · rw [show table.holding.get c = _ from hholding c, Holding.drained_notTone _ htone]
  · refine (exec_service_accepted s o hdue .drain .resting hbody hcls nofun (by rw [hlistening]; rfl)).trans ?_
    simp [serviceAct, drain, driveReply, takeOrder, hlistening, enterResting, Store.signalRest]

/-- Settles O36, by the state that the RETURN is accepted in. -/
theorem returnBringsTheStationBack : Obligations.ReturnBringsTheStationBack := by
  refine fun s o hdue hbody hcls => ⟨fun hdraining => ?_, fun hresting => ?_⟩
  · refine (exec_service_accepted s o hdue .back .serving hbody hcls nofun (by rw [hdraining]; rfl)).trans ?_
    simp [serviceAct, bringBack, driveReply, takeOrder, hdraining, enterState]
  · have hexec := exec_service_accepted s o hdue .back .listening hbody hcls nofun (by rw [hresting]; rfl)
    have hback : ∀ t : Station, t.orders.state = .resting →
        bringBack t = { t with store := t.store.signalReturn, orders := t.orders.listen } := fun t ht =>
      if_neg (by simp [ht])
    rw [serviceAct, hback (driveReply _ (takeOrder s.toStation)) hresting] at hexec
    refine ⟨_, hexec, rfl, rfl, rfl, rfl, fun hself => ?_, fun hawake => ⟨?_, ?_⟩, rfl, rfl⟩
    · exact decide_eq_true hself
    · exact decide_eq_false hawake
    · exact Store.signalReturn_work s.store

/-- Settles O38: both ways end in the same entry of HALTED. -/
theorem haltingEmptiesTheOrderUnit : Obligations.HaltingEmptiesTheOrderUnit := by
  refine ⟨fun s hcount => ?_, fun s n k others ht ho hseen hused hcount hl hk hwon => ?_⟩
  · have hexec : exec .haltCountdownEnd s = .next ⟨enterHalted s.toStation, s.pending⟩ := by
      simp [exec, execHaltCountdownEnd, haltDue, hcount]
    exact ⟨_, hexec, rfl, rfl, rfl, rfl, Tbl.get_fill false, rfl, rfl, rfl, rfl, rfl, rfl, rfl⟩
  · have hexec : exec (.noticePosition (.whole others)) s =
        .next ⟨noticeOutcome others (driveNotice s.toStation), s.pending⟩ := by
      simp [exec, execNoticePosition, noticePosition, noticeOpen_of s.toStation ht ho hseen hused]
    rw [noticeOutcome_faultWon s.toStation n others hl hk (by simp [hcount]) hwon] at hexec
    exact ⟨_, hexec, rfl, rfl, rfl, rfl, Tbl.get_fill false, rfl, rfl⟩

end Sys2Proof.Proofs
end

/-! The counts and timers that come to their ends, and the recorder's capture and commit (chapters 5, 6, 10 and 11). -/
section
namespace Sys2Proof.Machine

/-! ### A notice that meets an empty latch (R52) -/

/-- The order unit alone takes a notice, into its latch where that is empty (R52). -/
theorem post_latches (n : Notice) (s : Station) (ha : s.orders.state.answers = true) (hl : s.orders.latch = none) :
    post n s = { s with orders := { s.orders with latch := some n, drivenStands := false } } := by
  rw [post_answered n s ha, take_latches n s.orders hl, OrderUnit.latchNotice]

/-! ### Quiet timers (R83, R102) -/

/-- The STALE notice of a quiet timer's expiry, where listeners are removed (R83, R102). -/
def staleNotices (c : Channel) (listeners : Nat) : List Notice :=
  if listeners = 0 then [] else [{ kind := .stale, channel := some c, detail := listeners }]

theorem exec_cycleQuietExpiry (s : State) (c : Channel) (r : CycleRecord) (hr : s.table.holding.get c = .cycle r)
    (hquiet : r.quiet = 0) : exec (.cycleQuietExpiry c.val) s = .next ⟨postAll (staleNotices c r.listeners)
      (setHolding c (.cycle { r with listeners := 0, quiet := s.tables.quietPeriod }) s.toStation), s.pending⟩ := by
  simp only [exec, execCycleQuietExpiry, State.runChannel_val, cycleQuietDue, hr, hquiet, beq_self_eq_true, whenDue_true,
    expireCycle, Work.begin, Work.finish, List.nil_append]
  rfl

/-- A standing tone channel stays at the expiry (R102). -/
theorem exec_toneQuietExpiry_standing (s : State) (c : Channel) (r : ToneRecord)
    (hr : s.table.holding.get c = .tone r) (hquiet : r.quiet = 0) (hstanding : r.standing = true) :
    exec (.toneQuietExpiry c.val) s = .next ⟨postAll (staleNotices c r.listeners)
      (setHolding c (.tone { r with listeners := 0, quiet := s.tables.quietPeriod }) s.toStation), s.pending⟩ := by
  simp only [exec, execToneQuietExpiry, State.runChannel_val, toneQuietDue, hr, hquiet, beq_self_eq_true, whenDue_true,
    expireTone, Work.begin, List.nil_append, hstanding, if_true]
  rfl

/-- An ordinary tone channel ends at the expiry (R102). -/
theorem exec_toneQuietExpiry_ordinary (s : State) (c : Channel) (r : ToneRecord)
    (hr : s.table.holding.get c = .tone r) (hquiet : r.quiet = 0) (hordinary : r.standing = false) :
    exec (.toneQuietExpiry c.val) s = .next ⟨(Work.endService c
      ⟨setHolding c (.tone { r with listeners := 0, quiet := s.tables.quietPeriod }) s.toStation,
        staleNotices c r.listeners, []⟩).finish, s.pending⟩ := by
  simp only [exec, execToneQuietExpiry, State.runChannel_val, toneQuietDue, hr, hquiet, beq_self_eq_true, whenDue_true,
    expireTone, Work.begin, List.nil_append, hordinary]
  rfl

/-- With listeners removed, the one notice of the expiry is STALE, and an empty latch takes it (R52, R83, R102). -/
theorem postAll_stale (c : Channel) (listeners : Nat) (s : Station) (hsome : 1 ≤ listeners)
    (ha : s.orders.state.answers = true) (hl : s.orders.latch = none) : postAll (staleNotices c listeners) s =
      { s with orders := { s.orders with
        latch := some { kind := .stale, channel := some c, detail := listeners }, drivenStands := false } } := by
  rw [staleNotices, if_neg (Nat.one_le_iff_ne_zero.mp hsome)]
  exact post_latches _ s ha hl

/-- With no listeners nothing is posted, whatever the latch holds (R83, R102). -/
theorem staleNotices_none (c : Channel) (listeners : Nat) (h : listeners = 0) : staleNotices c listeners = [] := if_pos h

/-! ### Capture (R163, R166) -/

section
variable (s : State) (r : Recording) (hr : s.recorder = some r)
include hr

theorem exec_captureStart (hphase : r.phase = .searching) (hrun : 4 ≤ r.loudRun.length) :
    exec .captureStart s = .next ⟨{ s.toStation with recorder := some r.beginCapture }, s.pending⟩ := by
  simp [exec, execCaptureStart, captureDue, startCapture, hr, hphase, hrun]

/-- A stop due leaves the recorder HELD, with RECORD-END in an empty latch (R52, R166). -/
theorem stopCapture_latches (ha : s.orders.state.answers = true) (hl : s.orders.latch = none) :
    stopCapture s.toStation = { s.toStation with
      recorder := some { r with phase := .held, ring := r.ring.take (16 * (r.lastLoud + 1) - 16 * r.nextBurst) }
      orders := { s.orders with
        latch := some { kind := .recordEnd, channel := r.input, detail := min 4095 (r.lastLoud + 1) }
        drivenStands := false } } := by
  simp only [stopCapture, hr]
  exact post_latches _ { s.toStation with recorder := some r.stop } ha hl

end

end Sys2Proof.Machine

namespace Sys2Proof.Proofs
open Sys2Proof Sys2Proof.Machine

/-- Settles O46: each count at its end, with its notice latched. -/
theorem boundaryCountsComeToTheirEnds : Obligations.BoundaryCountsComeToTheirEnds := by
  refine fun s hl => ⟨fun hfall ha => ?_, fun hlistening hcount hdone => ?_⟩
  · have hworks : s.orders.state.monitored = true := by
      cases hstate : s.orders.state <;> simp [hstate, StationState.answers, StationState.monitored] at ha ⊢
    have hexec : exec .gradeFall s = .next ⟨gradeFall s.toStation, s.pending⟩ := by
      simp [exec, execGradeFall, Monitor.fallDue, hfall, hworks]
    rw [hexec, gradeFall, post_latches _ { s.toStation with monitor := s.monitor.lower } ha hl]
    rfl
  · have hexec : exec .listeningComplete s =
        .next ⟨post (stateNotice .serving) (beginServing s.toStation), s.pending⟩ := by
      simp [exec, execListeningComplete, listeningDue, hlistening, hcount, hdone]
    rw [hexec, post_latches _ (beginServing s.toStation) rfl hl]
    rfl

/-- Settles O44: the records as the expiry leaves them, with its one notice or none. -/
theorem quietExpiryClearsTheListeners : Obligations.QuietExpiryClearsTheListeners := by
  refine ⟨fun s c => ⟨fun r hr hquiet hnone => ?_, fun r hr hquiet hnone hstanding => ?_,
      fun r hr hquiet hnone hordinary => ?_⟩,
    fun s c ha hl => ⟨fun r hr hquiet hsome => ?_, fun r hr hquiet hsome hstanding => ?_,
      fun r hr hquiet hsome hordinary => ?_⟩⟩
  · rw [exec_cycleQuietExpiry s c r hr hquiet, staleNotices_none c _ hnone, ← hnone]
    rfl
  · rw [exec_toneQuietExpiry_standing s c r hr hquiet hstanding, staleNotices_none c _ hnone, ← hnone]
    rfl
  · have hexec := exec_toneQuietExpiry_ordinary s c r hr hquiet hordinary
    rw [staleNotices_none c _ hnone] at hexec
    obtain ⟨table, formed, hchanges⟩ := finish_endService_changes c (setHolding c (.tone
      { r with listeners := 0, quiet := s.tables.quietPeriod }) s.toStation) []
    refine ⟨_, hexec, ?_, finish_endService_holding c _ [], fun d hd => ?_⟩
    · rw [hchanges]
      rfl
    · exact (finish_endService_other c _ [] d hd).trans (setHolding_get_ne c d _ s.toStation (Ne.symm hd))
  · rw [exec_cycleQuietExpiry s c r hr hquiet, postAll_stale c _ (setHolding c _ s.toStation) hsome ha hl]
    rfl
  · rw [exec_toneQuietExpiry_standing s c r hr hquiet hstanding, postAll_stale c _ (setHolding c _ s.toStation) hsome ha hl]
    rfl
  · obtain ⟨table, formed, hchanges⟩ := finish_endService_changes c (setHolding c (.tone
      { r with listeners := 0, quiet := s.tables.quietPeriod }) s.toStation) (staleNotices c r.listeners)
    refine ⟨_, exec_toneQuietExpiry_ordinary s c r hr hquiet hordinary, ?_, finish_endService_holding c _ _, ?_,
      fun d hd => ?_⟩
    · rw [hchanges]
      rfl
    · rw [hchanges, postAll_stale c _ (setHolding c _ s.toStation) hsome ha hl]
    · exact (finish_endService_other c _ _ d hd).trans (setHolding_get_ne c d _ s.toStation (Ne.symm hd))

/-- Settles O53: the start, and the two stops, which end alike. -/
theorem captureStartsAndStops : Obligations.CaptureStartsAndStops := by
  refine ⟨fun s r hr hphase hrun => ?_, fun s r hr hphase ha hl => ⟨fun hsilent => ?_, fun hfull => ?_⟩⟩
  · rw [exec_captureStart s r hr hphase (by omega), Recording.beginCapture, hrun]
  · have hexec : exec .endSilenceStop s = .next ⟨stopCapture s.toStation, s.pending⟩ := by
      simp [exec, execEndSilenceStop, endSilenceDue, hr, hphase, hsilent]
    rw [hexec, stopCapture_latches s r hr ha hl]
  · have hexec : exec .fullAreaStop s = .next ⟨stopCapture s.toStation, s.pending⟩ := by
      simp [exec, execFullAreaStop, fullAreaDue, hr, hphase, hfull]
    rw [hexec, stopCapture_latches s r hr ha hl]

end Sys2Proof.Proofs
end

/-! FINISH COMMIT: the recording trimmed to whole bursts, and the swap of the entry's areas (chapter 11). -/
section
namespace Sys2Proof.Machine

/-! ### The codes kept, in whole bursts (R167) -/

theorem padBurst_nil : padBurst [] = [] := rfl

theorem padBurst_length_mod (l : List Code) : (padBurst l).length % 16 = 0 := by
  simp only [padBurst, List.length_append, List.length_replicate]
  omega

theorem padBurst_take (l : List Code) : (padBurst l).take l.length = l := List.take_left

theorem padBurst_drop (l : List Code) : ∀ k ∈ (padBurst l).drop l.length, k = 255 := by
  intro k hk
  rw [padBurst, List.drop_left] at hk
  exact List.eq_of_mem_replicate hk

theorem padBurst_ne_nil (l : List Code) (h : l ≠ []) : padBurst l ≠ [] := by simp [padBurst, h]

/-! ### The swap (R168) -/

theorem Entry.swap_id (e : Entry) (n : Nat) : (e.swap n).id = e.id := by
  unfold Entry.swap
  split <;> rfl

theorem Entry.swap_alternate (e : Entry) (n b : Nat) (h : e.alternate = some b) :
    e.swap n = { e with area := { base := b, length := n }, alternate := some e.area.base } := by
  simp [Entry.swap, h]

/-- The entries after a swap: the one named has its areas swapped, and every other stands (R168). -/
theorem findEntry_swapAreas (id n x : Nat) (s : Station) : findEntry (swapAreas id n s) x =
    (findEntry s x).map fun e => if e.id = id then e.swap n else e := by
  have hid : ((fun e : Entry => e.id == x) ∘ fun e => if e.id = id then e.swap n else e) = fun e => e.id == x := by
    funext e
    simp only [Function.comp]
    split
    · rw [Entry.swap_id]
    · rfl
  simp only [findEntry, swapAreas, List.find?_map, hid]

theorem findEntry_id (s : Station) (x : Nat) (e : Entry) (h : findEntry s x = some e) : e.id = x := by
  simpa using List.find?_some h

theorem findEntry_swapAreas_same (id n b : Nat) (s : Station) (e : Entry) (he : findEntry s id = some e)
    (hb : e.alternate = some b) : findEntry (swapAreas id n s) id =
      some { e with area := { base := b, length := n }, alternate := some e.area.base } := by
  rw [findEntry_swapAreas, he, Option.map_some, if_pos (findEntry_id s id e he), e.swap_alternate n b hb]

theorem findEntry_swapAreas_ne (id n x : Nat) (s : Station) (hx : x ≠ id) :
    findEntry (swapAreas id n s) x = findEntry s x := by
  rw [findEntry_swapAreas]
  cases he : findEntry s x with
  | none => rfl
  | some e => rw [Option.map_some, if_neg (findEntry_id s x e he ▸ hx)]

section
variable (s : Station) (r : Recording) (hr : s.recorder = some r)
include hr

/-- A commit whose ring is empty makes its swap (R168). -/
theorem settleCommit_swaps (hphase : r.phase = .committing) (hring : r.ring = []) :
    settleCommit s = { swapAreas r.entry (r.lastLoud + 1) s with recorder := none } := by
  simp [settleCommit, hr, hphase, hring]

/-- With codes still to write, or no commit, nothing is swapped (R168). -/
theorem settleCommit_waits (h : r.phase ≠ .committing ∨ r.ring ≠ []) : settleCommit s = s := by
  rcases h with h | h <;> simp [settleCommit, hr, h]

end

/-! ### FINISH COMMIT (R37, R167) -/

theorem exec_finishCommit (s : State) (o : Order) (hdue : dueOrder s.toStation = some o) (station : Nat)
    (hbody : o.body = .finish station .commit) :
    exec .finishCommit s = .next ⟨answer station (finishRefusal s.toStation o.cls .commit) acceptCommit
      (takeOrder s.toStation), s.pending⟩ := by
  simp [exec, execFinishCommit, finishPosition, hdue, hbody]

/-- The last check of R37: a recording with no voice found is EMPTY. -/
theorem finishRefusal_empty (s : Station) (cls : Nat) (r : Recording) (hcls : 2 ≤ cls) (hr : s.recorder = some r)
    (hphase : r.phase = .searching) (hlow : r.cls ≤ cls) : finishRefusal s cls .commit = some .empty := by
  simp [finishRefusal, Nat.not_lt.mpr hcls, hr, hphase, RecordPhase.unsettled, Nat.not_lt.mpr hlow]

theorem finishRefusal_commit (s : Station) (cls : Nat) (r : Recording) (hcls : 2 ≤ cls) (hr : s.recorder = some r)
    (hphase : r.phase = .capturing ∨ r.phase = .held) (hlow : r.cls ≤ cls) : finishRefusal s cls .commit = none := by
  rcases hphase with h | h <;>
    simp [finishRefusal, Nat.not_lt.mpr hcls, hr, h, RecordPhase.unsettled, Nat.not_lt.mpr hlow]

/-- The station after an accepted COMMIT's reply, as the input channel is returned (R167). -/
def committed (s : Station) (r : Recording) (c : Channel) : Station :=
  returnChannel s.table.target c
    { driveReply (finishAcceptWord s.number r.damaged r.length) s with recorder := some r.commit }

theorem acceptCommit_eq (s : Station) (r : Recording) (c : Channel) (hr : s.recorder = some r) (hin : r.input = some c) :
    acceptCommit s = settleCommit (committed s r c) := by
  simp [acceptCommit, commitRecording, hr, returnInput, hin, committed]

theorem committed_changes (s : Station) (r : Recording) (c : Channel) : ∃ t f, committed s r c = { s with
    port := { s.port with replyOut := some (finishAcceptWord s.number r.damaged r.length) }
    table := t, formed := f, recorder := some r.commit } := returnChannel_changes _ c _

/-- What an accepted COMMIT leaves, whether it has bursts to write or makes its swap (R167, R168). -/
theorem acceptCommit_cases (s : Station) (r : Recording) (c : Channel) (hr : s.recorder = some r)
    (hin : r.input = some c) :
    (r.kept ≠ [] ∧ acceptCommit s = committed s r c)
    ∨ (r.kept = [] ∧ acceptCommit s =
        { swapAreas r.entry (r.lastLoud + 1) (committed s r c) with recorder := none }) := by
  have hrec : (committed s r c).recorder = some r.commit := by
    obtain ⟨t, f, h⟩ := committed_changes s r c
    rw [h]
  rw [acceptCommit_eq s r c hr hin]
  by_cases hkept : r.kept = []
  · refine .inr ⟨hkept, settleCommit_swaps _ r.commit hrec rfl ?_⟩
    rw [Recording.commit, hkept, padBurst_nil]
  · exact .inl ⟨hkept, settleCommit_waits _ r.commit hrec (.inr (padBurst_ne_nil _ hkept))⟩

end Sys2Proof.Machine

namespace Sys2Proof.Proofs
open Sys2Proof Sys2Proof.Machine

/-- Settles O32: the orders discarded and refused, and the commit by whether codes are left to write. -/
theorem commitTrimsTheRecording : Obligations.CommitTrimsTheRecording := by
  refine ⟨fun s o station hdue hbody => ⟨fun hother => ?_, fun reason hown hrefused => ?_⟩,
    fun s o r c hdue hbody hcls hr hphase hlow hin => ?_⟩
  · rw [exec_finishCommit s o hdue station hbody, answer_other _ _ _ (takeOrder s.toStation) hother]
    rfl
  · have hreason : finishRefusal s.toStation o.cls .commit = some reason := by
      rcases hrefused with h | ⟨rfl, hcls, r, hr, hphase, hlow⟩
      · exact finishRefusal_refused s o.cls .commit reason h
      · exact finishRefusal_empty s.toStation o.cls r hcls hr hphase hlow
    rw [exec_finishCommit s o hdue station hbody, hreason, answer_refused station _ _ (takeOrder s.toStation) hown]
    rfl
  · have hexec := exec_finishCommit s o hdue _ hbody
    rw [finishRefusal_commit s.toStation o.cls r hcls hr hphase hlow,
      answer_accepted s.number.toNat _ (takeOrder s.toStation) rfl] at hexec
    have hinput : (committed (takeOrder s.toStation) r c).table.holding.get c =
        if s.table.pool.length < s.table.target then .pool else .none := returnChannel_holding _ c _
    have hothers : ∀ d, d ≠ c → (committed (takeOrder s.toStation) r c).table.holding.get d = s.table.holding.get d :=
      fun d hd => returnChannel_other _ c d _ (Ne.symm hd)
    obtain ⟨table, formed, hchanges⟩ := committed_changes (takeOrder s.toStation) r c
    obtain ⟨hkept, haccept⟩ | ⟨hkept, haccept⟩ := acceptCommit_cases (takeOrder s.toStation) r c hr hin
    · rw [haccept] at hexec
      refine ⟨_, hexec, ?_, hothers, ?_, hinput, fun _ => ⟨r.commit, ?_, rfl, rfl, padBurst_length_mod _,
        padBurst_take _, rfl, padBurst_drop _, ?_⟩, fun hnone => absurd hnone hkept, ?_⟩ <;> rw [hchanges] <;> rfl
    · rw [haccept] at hexec
      refine ⟨_, hexec, ?_, hothers, ?_, hinput, fun hsome => absurd hkept hsome, fun _ => ⟨rfl, fun e b he hb => ?_⟩, ?_⟩
      · rw [hchanges]; rfl
      · rw [hchanges]; rfl
      · have hfound : findEntry (committed (takeOrder s.toStation) r c) r.entry = some e := by
          rw [hchanges]; exact he
        exact ⟨_, findEntry_swapAreas_same r.entry (r.lastLoud + 1) b _ e hfound hb, rfl, rfl⟩
      · rw [hchanges]; rfl

end Sys2Proof.Proofs
end

/-! PUT and PUT-CLOSE as the controller decides them: the burst written, and what its requester makes of it (R135, R137,
R165, R168, R176). -/
section
namespace Sys2Proof.Machine

/-! ### What a requester makes of its PUT -/

/-- The requester gives up the codes of its PUT (R165, R176). -/
def requesterPut (who : Requester) : Station → Station :=
  match who with
  | .engine _ => id
  | .recorder => recorderPut
  | .loader => loaderPut

/-- The burst that a requester's PUT writes: its address and its codes (R165, R176). -/
def putsBurst (s : Station) (who : Requester) (a : Nat) (codes : List Code) : Prop :=
  (∃ r, who = .recorder ∧ s.recorder = some r ∧ codes = r.ring.take 16 ∧ a = recordAddress s r)
  ∨ (who = .loader ∧ codes = s.loader.hand ∧ a = loaderAddress s)

theorem recorderPut_store (s : Station) (st : Store) :
    recorderPut { s with store := st } = { recorderPut s with store := st } := by
  cases hr : s.recorder with
  | none => simp [recorderPut, hr]
  | some r =>
    simp only [recorderPut, hr, settleCommit]
    split <;> rfl

theorem loaderPut_store (s : Station) (st : Store) :
    loaderPut { s with store := st } = { loaderPut s with store := st } := by
  cases he : s.tables.directory[s.loader.audioEntry]? with
  | none => simp [loaderPut, he]
  | some e =>
    simp only [loaderPut, he]
    split <;> rfl

/-- A PUT writes the store, and its requester does the rest (R137). -/
theorem doPut_eq (s : Station) (who : Requester) (close : Bool) (a : Nat) (codes : List Code)
    (h : putsBurst s who a codes) :
    doPut who close s = { requesterPut who s with store := (writeBurst a close codes s).store } := by
  rcases h with ⟨r, rfl, hr, rfl, rfl⟩ | ⟨rfl, rfl, rfl⟩
  · simp only [doPut, hr]
    exact recorderPut_store s _
  · exact loaderPut_store s _

theorem requesterPut_store (who : Requester) (s : Station) (st : Store) :
    requesterPut who { s with store := st } = { requesterPut who s with store := st } := by
  cases who with
  | engine e => rfl
  | recorder => exact recorderPut_store s st
  | loader => exact loaderPut_store s st

theorem performDecision_put (d : Decision) (s : Station) (who : Requester) (close : Bool) (a : Nat) (codes : List Code)
    (hcmd : d.cmd = some (.put who close)) (h : putsBurst s who a codes) :
    ∃ bus, performDecision d s = { requesterPut who s with store :=
      (writeBurst a close codes { s with store := { s.store with work := d.work } }).store.carry (.put who close) bus } := by
  have hwork : putsBurst { s with store := { s.store with work := d.work } } who a codes := h
  refine ⟨busCommand { s with store := { s.store with work := d.work } } (.put who close), ?_⟩
  simp only [performDecision, hcmd, performCmd]
  rw [doPut_eq { s with store := { s.store with work := d.work } } who close a codes hwork, requesterPut_store]

/-- But for the engines and the draw, a step's decision is carried out as on the wrapped station (log entry 5). -/
theorem decideAndCarry_eq (s : Station) : ∃ e n, decideAndCarry s =
    { performDecision (decideStep (wrapEngines s)) (wrapEngines s) with engines := e, draw := n } := by
  obtain ⟨n, h⟩ | ⟨cl, hput, h⟩ := decideAndCarry_cases s _ rfl
  · exact ⟨_, n, h⟩
  · obtain ⟨e, hlate⟩ := wrapEngines_changes (performDecision (decideStep (wrapEngines s)) s)
    obtain ⟨es, hwrap⟩ := wrapEngines_changes s
    have hswap := performDecision_swap (decideStep (wrapEngines s)) s es cl hput
    rw [← hwrap] at hswap
    exact ⟨e, s.draw + 1, by rw [h, hlate, hswap]⟩

/-! ### The station as the decision finds it -/

/-- What falls due at a step leaves the contents of the store (R137, R141). -/
theorem prepareStep_memory (s : Station) : (prepareStep s).store.memory = s.store.memory := by
  obtain ⟨n, f, d, w, hframe⟩ := localFrame_changes s
  obtain ⟨o, l, e, b, hdue⟩ := fallDue_changes (whenDue (localFrameDue s) startLocalFrame s)
  unfold prepareStep
  dsimp only
  rw [hdue, hframe]

theorem prepareStep_step (s : Station) : (prepareStep s).store.step = s.store.step := by
  obtain ⟨n, o, l, e, st, h, hstep, -⟩ := prepareStep_changes s
  rw [h]
  exact hstep

/-- The wraps and what falls due leave the number, the table, the monitor, the recorder and the tables (R125, R126). -/
theorem wrappedStep_changes (s : Station) : ∃ n o l e st, wrapEngines (prepareStep s) = { s with
    port := { s.port with localSteps := n }, orders := o, loader := l, engines := e, store := st } := by
  obtain ⟨n, o, l, e, st, h, -⟩ := prepareStep_changes s
  obtain ⟨e', hwrap⟩ := wrapEngines_changes (prepareStep s)
  exact ⟨n, o, l, e', st, by rw [hwrap, h]⟩

/-- A load that a step ends leaves LOADING (R42, R176). -/
theorem loaderReady_loading (s : Station) (h : (loaderReady s).orders.state = .loading) : loaderReady s = s := by
  unfold loaderReady at h ⊢
  split
  · rename_i hdue
    rw [if_pos hdue] at h
    simp only [endLoading] at h
    split at h <;> cases h
  · rfl

/-- Data and closes that fall due leave the order unit and the loader (R137, R141). -/
theorem fallDueClosed_changes (s : Station) : ∃ n e st,
    pendingCloses (arrivals (whenDue (localFrameDue s) startLocalFrame s)) = { s with
      port := { s.port with localSteps := n }, engines := e, store := st } := by
  obtain ⟨n, f, d, w, hframe⟩ := localFrame_changes s
  obtain ⟨e, harrive⟩ := arrivals_changes (whenDue (localFrameDue s) startLocalFrame s)
  obtain ⟨b, hclose⟩ := pendingCloses_changes (arrivals (whenDue (localFrameDue s) startLocalFrame s))
  rw [hclose, harrive, hframe]
  exact ⟨n, e, _, rfl⟩

/-- In a step that stays in LOADING, the order unit and the loader stand until its command. -/
theorem wrappedStep_loading (s : Station) (h : (wrapEngines (prepareStep s)).orders.state = .loading) :
    ∃ n e st, wrapEngines (prepareStep s) = { s with
      port := { s.port with localSteps := n }, engines := e, store := st } := by
  obtain ⟨u, hu⟩ : ∃ u, u = pendingCloses (arrivals (whenDue (localFrameDue s) startLocalFrame s)) := ⟨_, rfl⟩
  have hprepare : prepareStep s = eachEngine reaimEngine (loaderReady u) := by rw [hu]; rfl
  obtain ⟨n, e, st, hdue⟩ := fallDueClosed_changes s
  obtain ⟨e', haim⟩ := reaimEngines_changes (loaderReady u)
  obtain ⟨e'', hwrap⟩ := wrapEngines_changes (prepareStep s)
  rw [← hu] at hdue
  rw [hwrap, hprepare, haim] at h ⊢
  rw [loaderReady_loading u h, hdue]
  exact ⟨n, e'', st, rfl⟩

/-- The loader's PUT is decided while the loader has a request (R133, R176). -/
theorem decideStep_loaderRequests (s : Station) (close : Bool) (h : (decideStep s).cmd = some (.put .loader close)) :
    loaderRequests s = true := by
  obtain ⟨q, hq | hq | ⟨e, hq⟩, hwho⟩ := decideStep_put s _ _ h
  · rw [(recorderRequest_who s q hq).1] at hwho
    cases hwho
  · by_contra hnone
    simp [loaderRequest, hnone] at hq
  · rw [(engineRequest_who s e q hq).1] at hwho
    cases hwho

theorem loaderRequests_audio (s : Station) (h : loaderRequests s = true) : s.loader.phase = .audio := by
  simp only [loaderRequests, Bool.and_eq_true, beq_iff_eq] at h
  obtain ⟨⟨-, haudio⟩, -⟩ := h
  exact haudio

/-! ### The command (R137, R143) -/

theorem decidedNow_put (s : Station) (who : Requester) (close : Bool) (h : decidedNow s = some (.put who close)) :
    (decideStep (wrapEngines (prepareStep s))).cmd = some (.put who close) ∧ s.store.issued = none := by
  have hfree : s.store.issued = none := by
    by_contra hissued
    simp [decidedNow, Option.isSome_iff_ne_none.mpr hissued] at h
  exact ⟨(decidedNow_free s hfree).symm.trans h, hfree⟩

theorem exec_put (s : State) (who : Requester) (close : Bool) (h : decidedNow s.toStation = some (.put who close)) :
    exec (if close then .putClose else .put) s = .next ⟨decideAndCarry (prepareStep s.toStation), s.pending⟩ := by
  have hput : issuePut close s.toStation = decideAndCarry (prepareStep s.toStation) := by simp [issuePut, issueNow, h]
  rw [← hput]
  cases close <;> rfl

/-! ### The requester's part (R165, R168, R176) -/

section
variable (s : Station) (r : Recording) (hr : s.recorder = some r)
include hr

/-- The recorder gives up sixteen codes, and goes on (R165). -/
theorem recorderPut_continues (h : r.phase ≠ .committing ∨ 16 < r.ring.length) :
    recorderPut s = { s with recorder := some { r with ring := r.ring.drop 16, nextBurst := r.nextBurst + 1 } } := by
  simp only [recorderPut, hr]
  refine settleCommit_waits _ _ rfl (h.imp_right fun hmore hnone => ?_)
  rw [List.drop_eq_nil_iff] at hnone
  omega

/-- The last codes of a commit make its swap (R168). -/
theorem recorderPut_swaps (hphase : r.phase = .committing) (hlast : r.ring.length ≤ 16) :
    recorderPut s = { swapAreas r.entry (r.lastLoud + 1) s with recorder := none } := by
  simp only [recorderPut, hr]
  exact settleCommit_swaps _ { r with ring := r.ring.drop 16, nextBurst := r.nextBurst + 1 } rfl hphase
     (List.drop_eq_nil_of_le hlast)

end

section
variable (s : Station) (e : Entry) (he : s.tables.directory[s.loader.audioEntry]? = some e)
include he

/-- Within an entry the loader goes on to its next burst (R176). -/
theorem loaderPut_nextBurst (h : s.loader.audioBurst + 1 < e.area.length) :
    loaderPut s = { s with loader := { s.loader with hand := [], audioBurst := s.loader.audioBurst + 1 } } := by
  obtain ⟨hentry, -⟩ := List.getElem?_eq_some_iff.mp he
  simp only [loaderPut, he, Loader.nextAudio, if_pos h, if_pos hentry]

/-- After an entry's last burst the loader goes on to the next entry, and after the last entry LOADING ends (R176). -/
theorem loaderPut_nextEntry (h : e.area.length ≤ s.loader.audioBurst + 1) : loaderPut s =
    if s.loader.audioEntry + 1 < s.tables.directory.length then
      { s with loader := { s.loader with hand := [], audioEntry := s.loader.audioEntry + 1, audioBurst := 0 } }
    else endLoading
      { s with loader := { s.loader with hand := [], audioEntry := s.loader.audioEntry + 1, audioBurst := 0 } } := by
  simp [loaderPut, he, Loader.nextAudio, Nat.not_lt.mpr h]

end

/-! ### The burst written (R135, R137) -/

section
variable (a : Nat) (close : Bool) (codes : List Code) (s : Station)

theorem writeBurst_read_inside (i : Nat) (hi : i < codes.length) :
    (writeBurst a close codes s).store.memory.read (16 * a + i) = codes[i]? :=
  Memory.read_writeAll_inside codes s.store.memory (16 * a) i hi

theorem writeBurst_read_outside (x : Nat) (hx : x < 16 * a ∨ 16 * a + codes.length ≤ x) :
    (writeBurst a close codes s).store.memory.read x = s.store.memory.read x :=
  Memory.read_writeAll_outside codes s.store.memory (16 * a) x hx

theorem writeBurst_lastPut :
    ((writeBurst a close codes s).store.banks.get (bankOf a)).lastPut = some s.store.step := by
  simp [writeBurst, Store.markPut, Store.setBank]

/-- PUT-CLOSE closes its bank two steps later (R137). -/
theorem writeBurst_pendingClose (hclose : close = true) :
    ((writeBurst a close codes s).store.banks.get (bankOf a)).pendingClose = some (s.store.step + 2) := by
  simp [writeBurst, Store.markPut, Store.setBank, hclose]

end

/-- LOADING ends in LISTENING, or without the pulse in ISOLATED (R42, R176). -/
theorem endLoading_state (s : Station) :
    (endLoading s).orders.state = if s.port.timer = none then .isolated else .listening := by
  cases ht : s.port.timer <;> simp [endLoading, pulsePresent, ht, OrderUnit.listen]

theorem endLoading_listening (s : Station) (ht : s.port.timer ≠ none) : (endLoading s).orders.listening = 0 := by
  simp [endLoading, pulsePresent_of_timer s ht, OrderUnit.listen]

/-- What a PUT decided at the step in progress makes of the station `w` that the decision finds: the burst in the store,
and the rest with its requester; the engines and the draw are left open (R137, R165, R176). -/
def burstPut (who : Requester) (close : Bool) (a : Nat) (codes : List Code) (w t : Station) : Prop :=
  ∃ bus e n work, t = { requesterPut who w with
    engines := e, draw := n
    store := (writeBurst a close codes { w with store := { w.store with work := work } }).store.carry
      (.put who close) bus }

theorem decideAndCarry_put (s : Station) (who : Requester) (close : Bool) (a : Nat) (codes : List Code)
    (h : decidedNow s = some (.put who close)) (hputs : putsBurst (wrapEngines (prepareStep s)) who a codes) :
    burstPut who close a codes (wrapEngines (prepareStep s)) (decideAndCarry (prepareStep s)) := by
  obtain ⟨e, n, hcarry⟩ := decideAndCarry_eq (prepareStep s)
  obtain ⟨bus, hput⟩ := performDecision_put _ _ who close a codes (decidedNow_put s who close h).1 hputs
  exact ⟨bus, e, n, _, by rw [hcarry, hput]⟩

section
variable {who : Requester} {close : Bool} {a : Nat} {codes : List Code} {w t : Station}
  (h : burstPut who close a codes w t)
include h

theorem burstPut.read_inside (i : Nat) (hi : i < codes.length) : t.store.memory.read (16 * a + i) = codes[i]? := by
  obtain ⟨bus, e, n, work, rfl⟩ := h
  exact writeBurst_read_inside a close codes _ i hi

theorem burstPut.read_outside (x : Nat) (hx : x < 16 * a ∨ 16 * a + codes.length ≤ x) :
    t.store.memory.read x = w.store.memory.read x := by
  obtain ⟨bus, e, n, work, rfl⟩ := h
  exact writeBurst_read_outside a close codes _ x hx

theorem burstPut.lastPut : (t.store.banks.get (bankOf a)).lastPut = some w.store.step := by
  obtain ⟨bus, e, n, work, rfl⟩ := h
  exact writeBurst_lastPut a close codes _

theorem burstPut.pendingClose (hclose : close = true) :
    (t.store.banks.get (bankOf a)).pendingClose = some (w.store.step + 2) := by
  obtain ⟨bus, e, n, work, rfl⟩ := h
  exact writeBurst_pendingClose a close codes _ hclose

theorem burstPut.written : t.store.lines.written = some codes := by
  obtain ⟨bus, e, n, work, rfl⟩ := h
  rfl

/-- Outside the store, the engines and the draw, the requester's part is all (R165, R176). -/
theorem burstPut.requester : t.recorder = (requesterPut who w).recorder ∧ t.tables = (requesterPut who w).tables
    ∧ t.loader = (requesterPut who w).loader ∧ t.orders = (requesterPut who w).orders := by
  obtain ⟨bus, e, n, work, rfl⟩ := h
  exact ⟨rfl, rfl, rfl, rfl⟩

end

section
variable {close : Bool} {a : Nat} {codes : List Code} {w t : Station} {r : Recording}
  (h : burstPut .recorder close a codes w t) (hr : w.recorder = some r)
include h hr

theorem burstPut.recorder_continues (hmore : r.phase ≠ .committing ∨ 16 < r.ring.length) :
    t.recorder = some { r with ring := r.ring.drop 16, nextBurst := r.nextBurst + 1 } ∧ t.tables = w.tables := by
  obtain ⟨hrecorder, htables, -⟩ := h.requester
  rw [hrecorder, htables, requesterPut, recorderPut_continues w r hr hmore]
  exact ⟨rfl, rfl⟩

theorem burstPut.recorder_swaps (hphase : r.phase = .committing) (hlast : r.ring.length ≤ 16) :
    t.recorder = none ∧ t.tables = (swapAreas r.entry (r.lastLoud + 1) w).tables := by
  obtain ⟨hrecorder, htables, -⟩ := h.requester
  rw [hrecorder, htables, requesterPut, recorderPut_swaps w r hr hphase hlast]
  exact ⟨rfl, rfl⟩

end

section
variable {close : Bool} {a : Nat} {codes : List Code} {w t : Station} {e : Entry}
  (h : burstPut .loader close a codes w t) (he : w.tables.directory[w.loader.audioEntry]? = some e)
include h he

theorem burstPut.loader_nextBurst (hmore : w.loader.audioBurst + 1 < e.area.length) :
    t.recorder = w.recorder ∧ t.tables = w.tables
      ∧ t.loader = { w.loader with hand := [], audioBurst := w.loader.audioBurst + 1 } ∧ t.orders = w.orders := by
  obtain ⟨hrecorder, htables, hloader, horders⟩ := h.requester
  rw [hrecorder, htables, hloader, horders, requesterPut, loaderPut_nextBurst w e he hmore]
  exact ⟨rfl, rfl, rfl, rfl⟩

theorem burstPut.loader_nextEntry (hlast : e.area.length ≤ w.loader.audioBurst + 1)
    (hmore : w.loader.audioEntry + 1 < w.tables.directory.length) : t.recorder = w.recorder ∧ t.tables = w.tables
      ∧ t.loader = { w.loader with hand := [], audioEntry := w.loader.audioEntry + 1, audioBurst := 0 }
      ∧ t.orders = w.orders := by
  obtain ⟨hrecorder, htables, hloader, horders⟩ := h.requester
  rw [hrecorder, htables, hloader, horders, requesterPut, loaderPut_nextEntry w e he hlast, if_pos hmore]
  exact ⟨rfl, rfl, rfl, rfl⟩

theorem burstPut.loader_done (hlast : e.area.length ≤ w.loader.audioBurst + 1)
    (hdone : w.tables.directory.length ≤ w.loader.audioEntry + 1) : t.recorder = w.recorder ∧ t.tables = w.tables
      ∧ t.loader = { w.loader with
          phase := .done, hand := [], audioEntry := w.loader.audioEntry + 1, audioBurst := 0 }
      ∧ t.orders.state = (if w.port.timer = none then .isolated else .listening)
      ∧ (w.port.timer ≠ none → t.orders.listening = 0) := by
  obtain ⟨hrecorder, htables, hloader, horders⟩ := h.requester
  rw [hrecorder, htables, hloader, horders, requesterPut, loaderPut_nextEntry w e he hlast,
    if_neg (Nat.not_lt.mpr hdone)]
  exact ⟨rfl, rfl, rfl, endLoading_state _, endLoading_listening _⟩

end

/-- The burst of the request as the obligation names it, on the station that the decision finds. -/
theorem putsBurst_wrapped (s : Station) (who : Requester) (close : Bool) (a : Nat) (codes : List Code)
    (h : decidedNow s = some (.put who close))
    (hburst : (∃ r, who = .recorder ∧ (prepareStep s).recorder = some r ∧ codes = r.ring.take 16
        ∧ a = alternateBase (prepareStep s) r.entry + r.nextBurst)
      ∨ (who = .loader ∧ codes = s.loader.hand ∧ a = loaderAddress s)) :
    putsBurst (wrapEngines (prepareStep s)) who a codes := by
  rcases hburst with ⟨r, hwho, hr, hcodes, ha⟩ | ⟨rfl, hcodes, ha⟩
  · have hrec := wrapEngines_leaves Station.recorder (fun _ _ => rfl) (prepareStep s)
    have haddress := wrapEngines_leaves (fun s => recordAddress s r) (fun _ _ => rfl) (prepareStep s)
    exact .inl ⟨r, hwho, hrec.trans hr, hcodes, ha.trans haddress.symm⟩
  · obtain ⟨n, e, st, hwrap⟩ := wrappedStep_loading s (decideStep_loaderPut _ close (decidedNow_put s _ close h).1)
    rw [hwrap]
    exact .inr ⟨rfl, hcodes, ha⟩

theorem findEntry_congr {s t : Station} (h : t.tables = s.tables) (x : Nat) : findEntry t x = findEntry s x := by
  rw [findEntry, findEntry, h]

/-- Nothing a step does lies in the monitor or the number (R136, R143). -/
theorem decideAndCarry_outside (s : Station) (h : s.store.issued = none) :
    (decideAndCarry (prepareStep s)).monitor = s.monitor ∧ (decideAndCarry (prepareStep s)).number = s.number := by
  rw [← stepCarried_free s h]
  exact ⟨OutsideStep.stepCarried (part := Station.monitor) ⟨fun _ _ _ _ _ _ _ _ => rfl, fun _ _ => rfl⟩ s,
    OutsideStep.stepCarried (part := Station.number) ⟨fun _ _ _ _ _ _ _ _ => rfl, fun _ _ => rfl⟩ s⟩

end Sys2Proof.Machine

namespace Sys2Proof.Proofs
open Sys2Proof Sys2Proof.Machine

/-- Settles O49: the burst in the store, then the recorder's part and the loader's. -/
theorem putWritesTheBurst : Obligations.PutWritesTheBurst := by
  intro s close who a codes hdecided hlength hburst
  have hput := decideAndCarry_put s.toStation who close a codes hdecided
    (putsBurst_wrapped s.toStation who close a codes hdecided hburst)
  obtain ⟨hcmd, hfree⟩ := decidedNow_put s.toStation who close hdecided
  obtain ⟨hmonitor, hnumber⟩ := decideAndCarry_outside s.toStation hfree
  have hmemory : (wrapEngines (prepareStep s.toStation)).store.memory = s.store.memory := by
    rw [wrapEngines_store, prepareStep_memory]
  have hstep : (wrapEngines (prepareStep s.toStation)).store.step = s.store.step := by
    rw [wrapEngines_store, prepareStep_step]
  have hexec := exec_put s who close hdecided
  generalize decideAndCarry (prepareStep s.toStation) = t at hput hmonitor hnumber hexec
  refine ⟨_, hexec, fun i hi => hput.read_inside i (hlength ▸ hi),
    fun x hx => (hput.read_outside x (hlength ▸ hx)).trans (by rw [hmemory]), hput.lastPut.trans (by rw [hstep]),
    hmonitor, hnumber, fun hclose => (hput.pendingClose hclose).trans (by rw [hstep]), hput.written,
    fun r hwho hr => ?_, fun e hwho he => ?_⟩
  · subst hwho
    obtain ⟨n, o, l, es, st, hwrap⟩ := wrappedStep_changes s.toStation
    rw [hwrap] at hput
    refine ⟨hput.recorder_continues hr, fun hphase hlast => ?_⟩
    obtain ⟨hnone, hswapped⟩ := hput.recorder_swaps hr hphase hlast
    refine ⟨hnone, ?_, fun e b he hb => ?_, fun id hid => ?_⟩
    · dsimp only
      rw [hswapped]
      rfl
    · exact (findEntry_congr hswapped _).trans (findEntry_swapAreas_same r.entry _ b _ e he hb)
    · exact (findEntry_congr hswapped _).trans (findEntry_swapAreas_ne r.entry _ id _ hid)
  · subst hwho
    have haudio := loaderRequests_audio _ (decideStep_loaderRequests _ close hcmd)
    obtain ⟨n, es, st, hwrap⟩ := wrappedStep_loading s.toStation (decideStep_loaderPut _ close hcmd)
    rw [hwrap] at hput haudio
    by_cases hburst : s.loader.audioBurst + 1 < e.area.length
    · obtain ⟨hrecorder, htables, hloader, horders⟩ := hput.loader_nextBurst he hburst
      exact ⟨by rw [hloader], htables, hrecorder, fun _ => ⟨hloader, horders⟩,
        fun hlast => absurd hburst (Nat.not_lt.mpr hlast)⟩
    · have hlast := Nat.not_lt.mp hburst
      by_cases hentry : s.loader.audioEntry + 1 < s.tables.directory.length
      · obtain ⟨hrecorder, htables, hloader, horders⟩ := hput.loader_nextEntry he hlast hentry
        exact ⟨by rw [hloader], htables, hrecorder, fun h => absurd h hburst,
          fun _ => ⟨by rw [hloader], by rw [hloader], fun _ => ⟨by rw [hloader]; exact haudio, horders⟩,
            fun h => absurd hentry (Nat.not_lt.mpr h)⟩⟩
      · obtain ⟨hrecorder, htables, hloader, hstate, hcount⟩ := hput.loader_done he hlast (Nat.not_lt.mp hentry)
        exact ⟨by rw [hloader], htables, hrecorder, fun h => absurd h hburst,
          fun _ => ⟨by rw [hloader], by rw [hloader], fun h => absurd h hentry,
            fun _ => ⟨by rw [hloader], hstate, hcount⟩⟩⟩

end Sys2Proof.Proofs
end

/-! Options and bids (chapter 4): which of a list of offers is best, what an option of a signal is, and what the
weighing of a signal finds (R55 to R65). -/
section
namespace Sys2Proof.Machine

/-! ### The best of a list -/

/-- One offer more at the end of a list is the best where it comes before the best of the list, or the list is empty. -/
theorem bestOf_concat (before : Offer → Offer → Bool) (l : List Offer) (o : Offer) :
    bestOf before (l ++ [o]) = some ((bestOf before l).elim o fun b => if before o b then o else b) := by
  unfold bestOf
  rw [List.foldl_append]
  cases List.foldl _ none l with
  | none => rfl
  | some b => exact (apply_ite some _ o b).symm

theorem bestOf_eq_none (before : Offer → Offer → Bool) (l : List Offer) : bestOf before l = none ↔ l = [] := by
  rcases List.eq_nil_or_concat l with rfl | ⟨rest, o, rfl⟩
  · exact iff_of_true rfl rfl
  · simp [bestOf_concat]

/-- Where the order of the weighing is that of a rank, the best offer of a list has the least rank in it. -/
theorem bestOf_least {α : Type} [LinearOrder α] {rank : Offer → α} {before : Offer → Offer → Bool}
    (hrank : ∀ o p, before o p = true ↔ rank o < rank p) (l : List Offer) (o : Offer) (h : bestOf before l = some o) :
    o ∈ l ∧ ∀ x ∈ l, rank o ≤ rank x := by
  induction l using List.reverseRecOn generalizing o with
  | nil => cases h
  | append_singleton l p ih =>
    simp only [List.mem_append, List.mem_singleton]
    rw [bestOf_concat, Option.some.injEq] at h
    cases hbest : bestOf before l with
    | none =>
      obtain rfl := (bestOf_eq_none _ _).mp hbest
      rw [hbest] at h
      simp [← h]
    | some b =>
      obtain ⟨hmem, hle⟩ := ih b hbest
      rw [hbest, Option.elim_some] at h
      split at h <;> rename_i hbefore <;> subst h
      · have hlt := (hrank _ _).mp hbefore
        exact ⟨.inr rfl, fun x hx => hx.elim (fun hx => hlt.le.trans (hle x hx)) fun hx => hx ▸ le_rfl⟩
      · rw [hrank, not_lt] at hbefore
        exact ⟨.inl hmem, fun x hx => hx.elim (hle x) fun hx => hx ▸ hbefore⟩

/-- The order of R61 and of R65: by a key first, at an equal key by the channel. -/
def Offer.rankBy (key : Offer → Nat) (o : Offer) : Nat ×ₗ Channel := toLex (key o, o.channel)

theorem Offer.rankBy_le (key : Offer → Nat) (o p : Offer) :
    o.rankBy key ≤ p.rankBy key ↔ key o < key p ∨ (key o = key p ∧ o.channel ≤ p.channel) := Prod.Lex.toLex_le_toLex

theorem Offer.sooner_iff (o p : Offer) : o.sooner p = true ↔ o.rankBy Offer.delay < p.rankBy Offer.delay := by
  simp [Offer.sooner, Offer.rankBy, Prod.Lex.toLex_lt_toLex]

theorem Offer.better_iff (o p : Offer) : o.better p = true ↔ o.rankBy Offer.bid < p.rankBy Offer.bid := by
  simp [Offer.better, Offer.rankBy, Prod.Lex.toLex_lt_toLex]

/-! ### Options -/

/-- The offer was made for this asking, at this grade and for this signal. -/
def Offer.Made (a : Ask) (grade signal : Nat) (o : Offer) : Prop :=
  o = makeOffer a grade signal o.channel o.wayIn o.delay

theorem makeOffer_made (a : Ask) (grade signal : Nat) (c : Channel) (w : WayIn) (delay : Nat) :
    (makeOffer a grade signal c w delay).Made a grade signal := rfl

theorem Offer.Made.degraded {a : Ask} {grade signal : Nat} {o : Offer} (h : o.Made a grade signal) :
    o.degraded = a.degraded := congrArg Offer.degraded h

theorem Offer.Made.bid {a : Ask} {grade signal : Nat} {o : Offer} (h : o.Made a grade signal) :
    o.bid = bidOf o.isNew grade o.delay := congrArg Offer.bid h

/-- An EXISTING option comes from a TONE or CYCLE channel that runs the signal and can take a caller, and its caller
comes on as a listener at once or as a pending record (R57, R58, R61). -/
theorem candidate_some (s : Station) (a : Ask) (signal : Nat) (c : Channel) (o : Offer)
    (h : candidate s a signal c = some o) :
    o.Made a s.monitor.grade signal ∧ o.channel = c ∧ o.isNew = false
      ∧ (s.table.holding.get c).callers < 255 := by
  unfold candidate at h
  split at h
  next r hr =>
    split at h
    · unfold toneCandidate at h
      split at h
      next hroom =>
        cases h
        exact ⟨makeOffer_made .., rfl, rfl, by rw [hr]; exact hroom.2⟩
      · cases h
    · cases h
  next r hr =>
    split at h
    · unfold cycleCandidate at h
      split at h
      next hroom =>
        have hcallers : (s.table.holding.get c).callers < 255 := by rw [hr]; exact hroom.2
        split at h
        · split at h
          · cases h
            exact ⟨makeOffer_made .., rfl, rfl, hcallers⟩
          · cases h
        next hnot =>
          cases h
          refine ⟨makeOffer_made .., rfl, ?_, hcallers⟩
          unfold cycleWayIn
          split <;> rfl
      · cases h
    · cases h
  · cases h

/-- The NEW option for a plan, by its conditions (R62). -/
theorem newToneOption_eq_some (s : Station) (a : Ask) (plan : Nat) (o : Offer) : newToneOption s a plan = some o ↔
    ∃ c, s.table.pool.head? = some c ∧ (findPlan s plan).isSome = true ∧ (freeGenerator s).isSome = true
      ∧ (s.monitor.grade < 3 ∨ s.tables.congestionPlan = some plan)
      ∧ o = makeOffer a s.monitor.grade plan c .newTone 0 := by
  unfold newToneOption
  cases s.table.pool with
  | nil => simp
  | cons c rest => simp [and_assoc, eq_comm (a := o)]

/-- The NEW option for an announcement, by its conditions (R63). -/
theorem newCycleOption_eq_some (s : Station) (a : Ask) (id : Nat) (o : Offer) : newCycleOption s a id = some o ↔
    ∃ c, s.table.pool.head? = some c ∧ (findEntry s id).isSome = true ∧ (freeEngine s).isSome = true
      ∧ s.monitor.grade < 3 ∧ o = makeOffer a s.monitor.grade id c .newCycle 2 := by
  unfold newCycleOption
  cases s.table.pool with
  | nil => simp
  | cons c rest => simp [and_assoc, eq_comm (a := o)]

theorem newOption_some (s : Station) (a : Ask) (signal : Nat) (o : Offer) (h : newOption s a signal = some o) :
    o.Made a s.monitor.grade signal ∧ o.isNew = true := by
  unfold newOption at h
  split at h
  · obtain ⟨c, -, -, -, -, rfl⟩ := (newToneOption_eq_some s a signal o).mp h
    exact ⟨makeOffer_made .., rfl⟩
  · obtain ⟨c, -, -, -, -, rfl⟩ := (newCycleOption_eq_some s a signal o).mp h
    exact ⟨makeOffer_made .., rfl⟩

/-- An EXISTING option bids less than a NEW one at the same grade, whatever the delays (R65). -/
theorem bidOf_existing_lt_new (grade delay delay' : Nat) :
    bidOf false grade delay < bidOf true grade delay' := by
  simp only [bidOf, Bool.false_eq_true, if_false, if_true]
  omega

/-! ### The weighing of a signal (R61, R65) -/

theorem mem_candidates (s : Station) (a : Ask) (signal : Nat) (o : Offer) :
    o ∈ (numbers 48).filterMap (candidate s a signal) ↔ ∃ c, candidate s a signal c = some o := by
  simp [List.mem_filterMap, numbers]

/-- The EXISTING option of a signal is a channel's, and no channel's is sooner (R61). -/
theorem existingOption_some (s : Station) (a : Ask) (signal : Nat) (o : Offer)
    (h : existingOption s a signal = some o) :
    (∃ c, candidate s a signal c = some o)
      ∧ ∀ c x, candidate s a signal c = some x → o.rankBy Offer.delay ≤ x.rankBy Offer.delay := by
  obtain ⟨hmem, hle⟩ := bestOf_least Offer.sooner_iff _ o h
  exact ⟨(mem_candidates s a signal o).mp hmem, fun c x hx => hle x ((mem_candidates s a signal x).mpr ⟨c, hx⟩)⟩

theorem existingOption_of_candidate (s : Station) (a : Ask) (signal : Nat) (c : Channel) (x : Offer)
    (h : candidate s a signal c = some x) : ∃ o, existingOption s a signal = some o := by
  rw [← Option.ne_none_iff_exists', existingOption, Ne, bestOf_eq_none]
  exact List.ne_nil_of_mem ((mem_candidates s a signal x).mpr ⟨c, h⟩)

/-- What the weighing of a signal finds is its EXISTING or its NEW option, and neither bids better (R65). -/
theorem weighSignal_some (s : Station) (a : Ask) (signal : Nat) (o : Offer) (h : weighSignal s a signal = some o) :
    (existingOption s a signal = some o ∨ newOption s a signal = some o)
      ∧ ∀ x, existingOption s a signal = some x ∨ newOption s a signal = some x →
          o.rankBy Offer.bid ≤ x.rankBy Offer.bid := by
  simpa only [List.mem_append, Option.mem_toList] using bestOf_least Offer.better_iff _ o h

/-- Where there is an EXISTING option, the weighing finds it (R65). -/
theorem weighSignal_existing (s : Station) (a : Ask) (signal : Nat) (o : Offer)
    (h : existingOption s a signal = some o) : weighSignal s a signal = some o := by
  obtain ⟨⟨c, hc⟩, -⟩ := existingOption_some s a signal o h
  obtain ⟨hmade, -, hkind, -⟩ := candidate_some s a signal c o hc
  rw [weighSignal, h]
  cases hnew : newOption s a signal with
  | none => rfl
  | some x =>
    obtain ⟨hmade', hkind'⟩ := newOption_some s a signal x hnew
    have hlt : o.bid < x.bid := by
      rw [hmade.bid, hmade'.bid, hkind, hkind']
      exact bidOf_existing_lt_new _ _ _
    have hnot : x.better o = false := by
      rw [← Bool.not_eq_true, Offer.better_iff, not_lt, Offer.rankBy_le]
      exact .inl hlt
    simp [bestOf, hnot]

/-! ### The weighing of a JOIN (R56, R64) -/

theorem weighJoin_accepted (s : Station) (cls : Nat) (tag : BitVec 8) (signal : Nat) (mode : Mode) (flag : Bool)
    (o : Offer) (h : weighSignal s { mode := mode, tag := tag, degraded := false } signal = some o) :
    weighJoin s cls tag signal mode flag = some o := by
  rw [weighJoin, h]

/-- With no accepted option, a substitute is weighed at grade 2 or 3 unless the flag, clamped at class 0, forbids it
(R56, R64). -/
theorem weighJoin_substitute (s : Station) (cls : Nat) (tag : BitVec 8) (signal : Nat) (mode : Mode) (flag : Bool)
    (h : weighSignal s { mode := mode, tag := tag, degraded := false } signal = none) :
    weighJoin s cls tag signal mode flag =
      if 2 ≤ s.monitor.grade ∧ (flag = true → cls = 0) then weighDegraded s mode tag signal else none := by
  rw [weighJoin, h]
  refine if_congr ?_ rfl rfl
  cases flag <;> simp [substituteAllowed]

theorem shortFormOf_eq_some (s : Station) (signal short : Nat) : shortFormOf s signal = some short ↔
    64 ≤ signal ∧ ∃ e, findEntry s signal = some e ∧ e.shortForm = some short := by
  unfold shortFormOf
  split
  · simp [*, Option.bind_eq_some_iff]
  · simp [*]

/-- Step 1 finds an offer where the signal has a short form that one is found for (R64). -/
theorem weighShortForm_eq_some (s : Station) (a : Ask) (signal : Nat) (x : Offer) : weighShortForm s a signal = some x ↔
    ∃ short, shortFormOf s signal = some short ∧ weighSignal s a short = some x := by
  rw [weighShortForm, Option.bind_eq_some_iff]

theorem weighDegraded_short (s : Station) (mode : Mode) (tag : BitVec 8) (signal : Nat) (x : Offer)
    (h : weighShortForm s { mode := mode, tag := tag, degraded := true } signal = some x) :
    weighDegraded s mode tag signal = some x := by
  simp only [weighDegraded, h]

theorem weighDegraded_congestion (s : Station) (mode : Mode) (tag : BitVec 8) (signal : Nat)
    (h : weighShortForm s { mode := mode, tag := tag, degraded := true } signal = none) :
    weighDegraded s mode tag signal = weighCongestion s { mode := mode, tag := tag, degraded := true } := by
  simp only [weighDegraded, h]

/-- The offer a signal's weighing finds was made for the asking. -/
theorem weighSignal_made (s : Station) (a : Ask) (signal : Nat) (o : Offer) (h : weighSignal s a signal = some o) :
    o.Made a s.monitor.grade signal := by
  obtain ⟨hex | hnew, -⟩ := weighSignal_some s a signal o h
  · obtain ⟨⟨c, hc⟩, -⟩ := existingOption_some s a signal o hex
    exact (candidate_some s a signal c o hc).1
  · exact (newOption_some s a signal o hnew).1

/-- An offer of the weighing is found for one signal weighed in its own right: the one asked for, its short form or the
congestion plan (R56, R64). -/
theorem weighJoin_some (s : Station) (cls : Nat) (tag : BitVec 8) (signal : Nat) (mode : Mode) (flag : Bool) (o : Offer)
    (h : weighJoin s cls tag signal mode flag = some o) : ∃ a x, weighSignal s a x = some o := by
  cases haccepted : weighSignal s { mode := mode, tag := tag, degraded := false } signal with
  | some p =>
    rw [weighJoin_accepted s cls tag signal mode flag p haccepted] at h
    exact ⟨_, _, haccepted.trans h⟩
  | none =>
    rw [weighJoin_substitute s cls tag signal mode flag haccepted] at h
    split at h
    · cases hshort : weighShortForm s { mode := mode, tag := tag, degraded := true } signal with
      | some p =>
        obtain ⟨short, -, hp⟩ := (weighShortForm_eq_some s _ signal p).mp hshort
        rw [weighDegraded_short s mode tag signal p hshort] at h
        exact ⟨_, _, hp.trans h⟩
      | none =>
        rw [weighDegraded_congestion s mode tag signal hshort, weighCongestion, Option.bind_eq_some_iff] at h
        obtain ⟨plan, -, hp⟩ := h
        exact ⟨_, _, hp⟩
    · cases h

/-- An EXISTING offer is made where its channel can take one caller more (R61). -/
theorem weighJoin_room (s : Station) (cls : Nat) (tag : BitVec 8) (signal : Nat) (mode : Mode) (flag : Bool) (o : Offer)
    (h : weighJoin s cls tag signal mode flag = some o) (hkind : o.isNew = false) :
    (s.table.holding.get o.channel).callers < 255 := by
  obtain ⟨a, x, hx⟩ := weighJoin_some s cls tag signal mode flag o h
  obtain ⟨hex | hnew, -⟩ := weighSignal_some s a x o hx
  · obtain ⟨⟨c, hc⟩, -⟩ := existingOption_some s a x o hex
    obtain ⟨-, rfl, -, hroom⟩ := candidate_some s a x c o hc
    exact hroom
  · rw [(newOption_some s a x o hnew).2] at hkind
    cases hkind

end Sys2Proof.Machine
end

/-! The joining obligations: which channels are candidates, which options exist, and what a JOIN's weighing offers. -/
section
namespace Sys2Proof.Machine

theorem candidate_tone (s : Station) (a : Ask) (plan : Nat) (c : Channel) (r : ToneRecord) (hplan : plan < 64)
    (h : s.table.holding.get c = .tone r) : candidate s a plan c = toneCandidate s a plan c r := by
  simp [candidate, h, hplan]

theorem candidate_cycle (s : Station) (a : Ask) (id : Nat) (c : Channel) (r : CycleRecord) (hid : 64 ≤ id)
    (h : s.table.holding.get c = .cycle r) : candidate s a id c = cycleCandidate s a id c r := by
  simp [candidate, h, hid]

theorem cycleWayIn_listener {mode : Mode} {substate : Substate} (hmode : mode = .any)
    (h : substate = .playing ∨ substate = .gap) : cycleWayIn mode substate = .listener := by
  subst hmode
  rcases h with rfl | rfl <;> rfl

theorem cycleWayIn_pending {mode : Mode} {substate : Substate} (h : mode = .start ∨ substate = .priming) :
    cycleWayIn mode substate = .pending := by
  rcases h with rfl | rfl
  · cases substate <;> rfl
  · cases mode <;> rfl

/-- A caller that a cycle channel has room for and that joins as a listener joins at once (R58). -/
theorem cycleCandidate_listener (s : Station) (a : Ask) (id : Nat) (c : Channel) (r : CycleRecord)
    (hid : r.announcement = id) (hroom : r.listeners + r.waiting.length < 255)
    (hway : cycleWayIn a.mode r.substate = .listener) :
    cycleCandidate s a id c r = some (makeOffer a s.monitor.grade id c .listener 0) := by
  simp only [cycleCandidate, hway, if_pos (And.intro hid hroom)]

/-- A caller that a cycle channel has room for and that joins at the next start waits until T, where the wait may be
promised (R58, R59). -/
theorem cycleCandidate_pending (s : Station) (a : Ask) (id : Nat) (c : Channel) (r : CycleRecord)
    (hid : r.announcement = id) (hroom : r.listeners + r.waiting.length < 255)
    (hway : cycleWayIn a.mode r.substate = .pending) :
    cycleCandidate s a id c r =
      if waitAllowed s r = true then some (makeOffer a s.monitor.grade id c .pending r.t) else none := by
  simp only [cycleCandidate, hway, if_pos (And.intro hid hroom)]

/-- The wait may be promised within the effective window of the entry played, within 4095 and with fewer than 8 records
pending (R59, R60). -/
theorem waitAllowed_iff (s : Station) (r : CycleRecord) (e : Entry) (he : findEntry s r.announcement = some e) :
    waitAllowed s r = true ↔
      r.t ≤ effectiveWindow s.monitor.grade e.window ∧ r.t ≤ 4095 ∧ r.waiting.length < 8 := by
  simp [waitAllowed, he, and_assoc]

theorem findEntry_isSome (s : Station) (id : Nat) :
    (findEntry s id).isSome = true ↔ ∃ e ∈ s.tables.directory, e.id = id := by
  simp [findEntry]

theorem findPlan_isSome (s : Station) (plan : Nat) :
    (findPlan s plan).isSome = true ↔ ∃ p ∈ s.tables.plans, p.id = plan := by
  simp [findPlan]

theorem freeEngine_isSome (s : Station) : (freeEngine s).isSome = true ↔ ∃ e, (s.engines.get e).bound = none := by
  simp [freeEngine, numbers]

theorem freeGenerator_isSome (s : Station) : (freeGenerator s).isSome = true ↔
    ∃ g : Fin 8, ∀ c, (s.table.holding.get c).usesGenerator g = false := by
  simp [freeGenerator, numbers]

/-- The NEW option for a plan names the oldest pool channel, and exists where R62's conditions hold. -/
theorem newOption_tone (s : Station) (a : Ask) (plan : Nat) (o : Offer) (hplan : plan < 64) :
    newOption s a plan = some o ↔ ∃ c, s.table.pool.head? = some c ∧ (∃ p ∈ s.tables.plans, p.id = plan)
      ∧ (∃ g : Fin 8, ∀ c, (s.table.holding.get c).usesGenerator g = false)
      ∧ (s.monitor.grade < 3 ∨ s.tables.congestionPlan = some plan)
      ∧ o = makeOffer a s.monitor.grade plan c .newTone 0 := by
  rw [newOption, if_pos hplan, newToneOption_eq_some, findPlan_isSome, freeGenerator_isSome]

/-- The NEW option for an announcement names the oldest pool channel, and exists where R63's conditions hold. -/
theorem newOption_cycle (s : Station) (a : Ask) (id : Nat) (o : Offer) (hid : 64 ≤ id) :
    newOption s a id = some o ↔ ∃ c, s.table.pool.head? = some c ∧ (∃ e ∈ s.tables.directory, e.id = id)
      ∧ (∃ e, (s.engines.get e).bound = none) ∧ s.monitor.grade < 3
      ∧ o = makeOffer a s.monitor.grade id c .newCycle 2 := by
  rw [newOption, if_neg (Nat.not_lt.mpr hid), newCycleOption_eq_some, findEntry_isSome, freeEngine_isSome]

theorem pool_ne_nil_iff (s : Station) : s.table.pool ≠ [] ↔ ∃ c, s.table.pool.head? = some c := by
  rw [← Option.ne_none_iff_exists', Ne, Ne, List.head?_eq_none_iff]

end Sys2Proof.Machine

namespace Sys2Proof.Proofs
open Sys2Proof Sys2Proof.Machine

/-- Settles O20. -/
theorem toneChannelIsACandidate : Obligations.ToneChannelIsACandidate := by
  intro s a plan c r hplan hheld hruns hroom
  refine ⟨makeOffer a s.monitor.grade plan c .listener 0, ?_, rfl, rfl, rfl, rfl⟩
  rw [candidate_tone s a plan c r hplan hheld, toneCandidate, if_pos ⟨hruns, hroom⟩]

/-- Settles O21, by whether the caller joins at once or waits. -/
theorem waitIsOfferedWithinTheWindow : Obligations.WaitIsOfferedWithinTheWindow := by
  intro s a id c r e hid _ hheld hplays he hroom
  rw [candidate_cycle s a id c r hid hheld]
  refine ⟨fun hany hsubstate => ?_, fun hwaits => ?_⟩
  · exact ⟨_, cycleCandidate_listener s a id c r hplays hroom (cycleWayIn_listener hany hsubstate), rfl, rfl, rfl, rfl⟩
  · rw [cycleCandidate_pending s a id c r hplays hroom (cycleWayIn_pending hwaits)]
    refine ⟨?_, fun o ho => ?_⟩
    · rw [Option.isSome_ite]
      exact waitAllowed_iff s r e (hplays ▸ he)
    · obtain ⟨-, ⟨⟩⟩ := Option.ite_none_right_eq_some.mp ho
      exact ⟨rfl, rfl, rfl, rfl⟩

/-- Settles O22. -/
theorem newToneOptionExists : Obligations.NewToneOptionExists := by
  intro s a plan hplan
  refine ⟨?_, fun o ho => ?_⟩
  · rw [Option.isSome_iff_exists, pool_ne_nil_iff]
    simp only [newOption_tone s a plan _ hplan]
    exact ⟨fun ⟨_, c, hpool, hknown, hfree, hgrade, _⟩ => ⟨hknown, ⟨c, hpool⟩, hfree, hgrade⟩,
      fun ⟨hknown, ⟨c, hpool⟩, hfree, hgrade⟩ => ⟨_, c, hpool, hknown, hfree, hgrade, rfl⟩⟩
  · obtain ⟨c, hpool, -, -, -, rfl⟩ := (newOption_tone s a plan o hplan).mp ho
    exact ⟨hpool, rfl, rfl, rfl⟩

/-- Settles O23. -/
theorem newAnnouncementOptionExists : Obligations.NewAnnouncementOptionExists := by
  intro s a id hid
  refine ⟨?_, fun o ho => ?_⟩
  · rw [Option.isSome_iff_exists, pool_ne_nil_iff]
    simp only [newOption_cycle s a id _ hid]
    exact ⟨fun ⟨_, c, hpool, hknown, hfree, hgrade, _⟩ => ⟨hknown, ⟨c, hpool⟩, hfree, hgrade⟩,
      fun ⟨hknown, ⟨c, hpool⟩, hfree, hgrade⟩ => ⟨_, c, hpool, hknown, hfree, hgrade, rfl⟩⟩
  · obtain ⟨c, hpool, -, -, -, rfl⟩ := (newOption_cycle s a id o hid).mp ho
    exact ⟨hpool, rfl, rfl, rfl⟩

/-- Settles O24: the best of the candidates is the EXISTING option, it bids below any NEW one, and the weighing takes
the least of the two. -/
theorem existingOptionIsPreferred : Obligations.ExistingOptionIsPreferred := by
  refine ⟨fun s a signal c x _ hx => ?_, fun s a signal o => ⟨fun c hc => ?_, fun hnew => ?_⟩,
    fun s a signal o x ho hx => ?_⟩
  · obtain ⟨o, ho⟩ := existingOption_of_candidate s a signal c x hx
    obtain ⟨⟨d, hd⟩, hbest⟩ := existingOption_some s a signal o ho
    obtain ⟨-, -, hkind, -⟩ := candidate_some s a signal d o hd
    have hsooner := (Offer.rankBy_le _ o x).mp (hbest c x hx)
    refine ⟨o, weighSignal_existing s a signal o ho, hkind, ho, ?_, fun heq => ?_⟩
    · exact hsooner.elim Nat.le_of_lt fun h => h.1.le
    · exact (hsooner.resolve_left heq.not_lt).2
  · obtain ⟨hmade, -, hkind, -⟩ := candidate_some s a signal c o hc
    exact ⟨by rw [hmade.bid, hkind, bidOf]; simp, hmade.degraded⟩
  · obtain ⟨hmade, hkind⟩ := newOption_some s a signal o hnew
    exact ⟨by rw [hmade.bid, hkind, bidOf, if_pos rfl], hmade.degraded⟩
  · exact (Offer.rankBy_le _ o x).mp ((weighSignal_some s a signal o ho).2 x hx)

/-- Settles O25: the accepted option first, then the short form, then the congestion plan. -/
theorem substituteOnlyUnderCongestion : Obligations.SubstituteOnlyUnderCongestion := by
  refine ⟨fun s cls tag signal mode flag o ho hdegraded => ?_, fun s tag signal mode => ?_, ?_⟩
  · cases haccepted : weighSignal s { mode := mode, tag := tag, degraded := false } signal with
    | some p =>
      rw [weighJoin_accepted s cls tag signal mode flag p haccepted, Option.some.injEq] at ho
      rw [← ho, (weighSignal_made s _ signal p haccepted).degraded] at hdegraded
      cases hdegraded
    | none =>
      rw [weighJoin_substitute s cls tag signal mode flag haccepted] at ho
      obtain ⟨⟨hgrade, hflag⟩, -⟩ := Option.ite_none_right_eq_some.mp ho
      exact ⟨hgrade, hflag, rfl⟩
  · cases haccepted : weighSignal s { mode := mode, tag := tag, degraded := false } signal with
    | some p => simp only [weighJoin_accepted s 0 tag signal mode _ p haccepted]
    | none => simp [weighJoin_substitute s 0 tag signal mode _ haccepted]
  · rintro s cls tag signal mode flag _ _ rfl rfl
    refine ⟨weighJoin_accepted s cls tag signal mode flag, fun hnone => ⟨fun hforbidden => ?_, fun hgrade hflag => ?_⟩⟩
    · rw [weighJoin_substitute s cls tag signal mode flag hnone, if_neg]
      rintro ⟨hgrade, hflag⟩
      exact hforbidden.elim (Nat.not_lt.mpr hgrade) fun ⟨hset, hcls⟩ => hcls (hflag hset)
    · have hweighed : weighJoin s cls tag signal mode flag = weighDegraded s mode tag signal := by
        rw [weighJoin_substitute s cls tag signal mode flag hnone, if_pos]
        exact ⟨hgrade, fun hset => hflag.resolve_left (by simp [hset])⟩
      rw [hweighed]
      refine ⟨fun e short o hsignal he hshort hfound => ?_, fun hnothing => ?_⟩
      · refine weighDegraded_short s mode tag signal o ((weighShortForm_eq_some s _ signal o).mpr ⟨short, ?_, hfound⟩)
        exact (shortFormOf_eq_some s signal short).mpr ⟨hsignal, e, he, hshort⟩
      · rw [weighDegraded_congestion s mode tag signal]
        · exact ⟨fun hplan => by rw [weighCongestion, hplan]; rfl,
            fun plan hplan => by rw [weighCongestion, hplan]; rfl⟩
        · refine Option.eq_none_iff_forall_ne_some.mpr fun x hx => ?_
          obtain ⟨short, hform, hfound⟩ := (weighShortForm_eq_some s _ signal x).mp hx
          obtain ⟨hsignal, e, he, hshort⟩ := (shortFormOf_eq_some s signal short).mp hform
          rw [hnothing e short hsignal he hshort] at hfound
          cases hfound

end Sys2Proof.Proofs
end

/-! Callers on a channel (R61, R73): the condition on the station alone, and how an event that brings no channel a
caller keeps it. -/
section
namespace Sys2Proof.Machine

/-- `callersOk` of the station alone. -/
structure Station.CallersFit (s : Station) : Prop where
  within : ∀ c, (s.table.holding.get c).callers ≤ 255
  room : ∀ o, s.offer = some o → o.isNew = false → (s.table.holding.get o.channel).callers < 255

theorem callersOk_iff (s : State) : callersOk s ↔ s.toStation.CallersFit :=
  ⟨fun ⟨hwithin, hroom⟩ => ⟨hwithin, hroom⟩, fun ⟨hwithin, hroom⟩ => ⟨hwithin, hroom⟩⟩

section
variable {s t : Station}

/-- An event by which no channel comes to more callers, and which leaves the offer in hand or drops it. -/
theorem Station.CallersFit.next (h : s.CallersFit)
    (hle : ∀ c, (t.table.holding.get c).callers ≤ (s.table.holding.get c).callers)
    (hoffer : t.offer = none ∨ t.offer = s.offer) : t.CallersFit := by
  refine ⟨fun c => (hle c).trans (h.within c), fun o ho hkind => (hle _).trans_lt ?_⟩
  rcases hoffer with hnone | hsame
  · rw [hnone] at ho
    cases ho
  · exact h.room o (hsame ▸ ho) hkind

/-- An event that touches neither the holdings nor the offer in hand. -/
theorem Station.CallersFit.same (h : s.CallersFit) (hholding : t.table.holding = s.table.holding)
    (hoffer : t.offer = s.offer) : t.CallersFit := h.next (fun c => by rw [hholding]) (.inr hoffer)

/-- One channel comes to a holding with no more callers. -/
theorem Station.CallersFit.put (h : s.CallersFit) (c : Channel) (x : Holding)
    (hle : x.callers ≤ (s.table.holding.get c).callers) (hholding : t.table.holding = s.table.holding.put c x)
    (hoffer : t.offer = s.offer) : t.CallersFit := by
  refine h.next (fun d => ?_) (.inr hoffer)
  by_cases hd : c = d
  · subst hd
    rwa [hholding, Tbl.get_put_same]
  · rw [hholding, Tbl.get_put_ne _ _ _ _ hd]

/-- One channel comes to a holding that has no callers. -/
theorem Station.CallersFit.vacate (h : s.CallersFit) (c : Channel) (x : Holding) (hx : x.callers = 0)
    (hholding : t.table.holding = s.table.holding.put c x) (hoffer : t.offer = s.offer) : t.CallersFit :=
  h.put c x (hx ▸ Nat.zero_le _) hholding hoffer

/-- A TONE channel's record is replaced by one with no more listeners. -/
theorem Station.CallersFit.tone (h : s.CallersFit) {c : Channel} {r r' : ToneRecord}
    (hr : s.table.holding.get c = .tone r) (hle : r'.listeners ≤ r.listeners) :
    (setHolding c (.tone r') s).CallersFit := h.put c (.tone r') (by rwa [hr]) rfl rfl

/-- A CYCLE channel's record is replaced by one with no more listeners and pending records together. -/
theorem Station.CallersFit.cycle (h : s.CallersFit) {c : Channel} {r r' : CycleRecord}
    (hr : s.table.holding.get c = .cycle r)
    (hle : r'.listeners + r'.waiting.length ≤ r.listeners + r.waiting.length) :
    (setHolding c (.cycle r') s).CallersFit := h.put c (.cycle r') (by rwa [hr]) rfl rfl

/-- An idle station has no callers, and with no offer in hand meets the condition. -/
theorem Station.Idle.callersFit (h : s.Idle) (hoffer : s.offer = none) : s.CallersFit :=
  ⟨fun c => by rw [h.holding c]; exact Nat.zero_le _, fun o ho => by rw [hoffer] at ho; cases ho⟩

theorem Station.CallersFit.whenDue (h : s.CallersFit) (due : Bool) {f : Station → Station}
    (hf : due = true → s.CallersFit → (f s).CallersFit) : (Machine.whenDue due f s).CallersFit :=
  whenDue_keeps Station.CallersFit due f s hf h

theorem Station.CallersFit.post (h : s.CallersFit) (n : Notice) : (Machine.post n s).CallersFit :=
  h.same (by rw [post_table]) (post_offer n s)

theorem Station.CallersFit.postAll (h : s.CallersFit) (ns : List Notice) : (Machine.postAll ns s).CallersFit :=
  h.same (by rw [postAll_table]) (postAll_offer ns s)

/-- The condition on work in progress. -/
def Work.CallersFit (w : Work) : Prop := w.station.CallersFit

/-! ### Channels returned and lost (R26, R28) -/

theorem returnChannel_fits (target : Nat) (c : Channel) (h : s.CallersFit) : (returnChannel target c s).CallersFit := by
  simp only [returnChannel]
  split
  · exact h.vacate c .pool rfl rfl rfl
  · exact h.vacate c .none rfl rfl rfl

theorem returnAll_fits (target : Nat) (cs : List Channel) (h : s.CallersFit) : (returnAll target cs s).CallersFit :=
  foldl_keeps Station.CallersFit _ cs (fun _ c ht => returnChannel_fits target c ht) s h

theorem tearDown_holding (c : Channel) (s : Station) : (tearDown c s).table.holding = s.table.holding := by
  unfold tearDown
  split <;> rfl

theorem dropChannel_fits (c : Channel) (h : s.CallersFit) : (dropChannel c s).CallersFit := by
  obtain ⟨t, f, e, r, heq⟩ := dropChannel_changes c s
  refine h.vacate c .none rfl ?_ (by rw [heq])
  exact congrArg (Tbl.put · c .none) (tearDown_holding c s)

theorem loseChannel_fits (c : Channel) (detail : Nat) (h : s.CallersFit) : (loseChannel c detail s).CallersFit := by
  unfold loseChannel
  split
  · exact (dropChannel_fits c h).post _
  · exact dropChannel_fits c h

theorem endService_fits (c : Channel) {w : Work} (h : w.CallersFit) : (w.endService c).CallersFit :=
  h.vacate c .none rfl rfl rfl

theorem finish_fits {w : Work} (h : w.CallersFit) : w.finish.CallersFit :=
  returnAll_fits _ _ (h.postAll _)

/-! ### Claims, releases and owner positions (R21 to R30) -/

theorem releaseNewest_fits (h : s.CallersFit) : (releaseNewest s).CallersFit := by
  obtain ⟨-, heq⟩ | ⟨rest, x, -, heq⟩ := releaseNewest_cases s <;> rw [heq]
  · exact h
  · exact h.vacate x .none rfl rfl rfl

theorem settleClaim_fits (c : Channel) (won : Bool) (h : s.CallersFit) : (settleClaim c won s).CallersFit := by
  cases won with
  | false => exact h.same rfl rfl
  | true => exact (h.whenDue _ fun _ => releaseNewest_fits).vacate c .pool rfl rfl rfl

theorem duplicateIdentity_fits (c : Channel) (h : s.CallersFit) : (duplicateIdentity c s).CallersFit := by
  refine h.next (fun d => ?_) (.inr (post_offer _ _))
  rw [(duplicateIdentity_idle c s).holding d]
  exact Nat.zero_le _

theorem ownerPosition_fits (c : Channel) (others : List OwnerCode) (h : s.CallersFit) :
    (ownerPosition c others s).CallersFit := by
  have hread : ∀ driven read, (readOwner c driven read s).CallersFit := fun _ _ => h.same rfl rfl
  simp only [ownerPosition]
  split
  · split
    · exact settleClaim_fits c _ (hread _ _)
    · split
      · exact hread _ _
      · exact loseChannel_fits c _ (hread _ _)
  · split
    · exact duplicateIdentity_fits c (hread _ _)
    · exact hread _ _

theorem contentionEvent_fits (c : Channel) (h : s.CallersFit) : (contentionEvent c s).CallersFit := by
  have hcounted : ({ s with table := { s.table with
      contention := s.table.contention.put c (s.table.contention.get c + 1) } } : Station).CallersFit := h.same rfl rfl
  exact hcounted.whenDue _ fun _ => loseChannel_fits c 15

/-! ### The recorder (R163 to R167) -/

theorem Station.CallersFit.recorder (h : s.CallersFit) (r : Option Recording) :
    ({ s with recorder := r } : Station).CallersFit := h.same rfl rfl

theorem startCapture_fits (h : s.CallersFit) : (startCapture s).CallersFit := by
  unfold startCapture
  split
  · exact h
  · exact h.recorder _

theorem stopCapture_fits (h : s.CallersFit) : (stopCapture s).CallersFit := by
  unfold stopCapture
  split
  · exact h
  · exact (h.recorder _).post _

theorem recorderSample_fits (k : Code) (h : s.CallersFit) : (recorderSample k s).CallersFit := by
  unfold recorderSample
  split
  · exact h
  · dsimp only
    split
    · split
      · exact (h.recorder _).whenDue _ fun _ => startCapture_fits
      · exact h
    · exact ((h.recorder _).whenDue _ fun _ => stopCapture_fits).whenDue _ fun _ => stopCapture_fits
    · exact h

theorem samplePosition_fits (c : Channel) (others : Code) (h : s.CallersFit) :
    (samplePosition c others s).CallersFit := by
  have hpass : ∀ driven, ({ s with port := { s.port with
      sampleNext := c.val + 1, sampleOut := s.port.sampleOut.put c driven } } : Station).CallersFit :=
    fun _ => h.same rfl rfl
  exact ((hpass _).whenDue _ fun _ => contentionEvent_fits c).whenDue _ fun _ => recorderSample_fits _

theorem returnInput_fits (r : Recording) (h : s.CallersFit) : (returnInput r s).CallersFit := by
  unfold returnInput
  split
  · exact h
  · exact returnChannel_fits _ _ h

theorem settleCommit_fits (h : s.CallersFit) : (settleCommit s).CallersFit := by
  unfold settleCommit
  split
  · exact h
  · split
    · exact h.same rfl rfl
    · exact h

theorem discardRecording_fits (h : s.CallersFit) : (discardRecording s).CallersFit := by
  unfold discardRecording
  split
  · exact h
  · exact returnInput_fits _ (h.recorder _)

theorem commitRecording_fits (h : s.CallersFit) : (commitRecording s).CallersFit := by
  unfold commitRecording
  split
  · exact h
  · exact settleCommit_fits (returnInput_fits _ (h.recorder _))

end

end Sys2Proof.Machine
end

/-! What tone and cycle work keeps of the callers: a cadence leaves the listeners, and a cycle that starts makes its
pending records listeners (chapters 5 and 6). -/
section
namespace Sys2Proof.Machine

/-! ### The cadence (R96 to R100) -/

@[simp] theorem withIncrements_listeners (p : Plan) (sound : Option Nat) (r : ToneRecord) :
    (withIncrements p sound r).listeners = r.listeners := by
  unfold withIncrements
  split
  · rfl
  · split <;> rfl

@[simp] theorem enterStep_listeners (p : Plan) (i : Nat) (st : CadenceStep) (r : ToneRecord) :
    (enterStep p i st r).listeners = r.listeners := by
  unfold enterStep
  split <;> rw [withIncrements_listeners]

@[simp] theorem search_listeners (p : Plan) (grade left candidate : Nat) (r : ToneRecord) :
    (search p grade left candidate r).listeners = r.listeners := by
  induction left generalizing candidate r with
  | zero => rfl
  | succ left ih =>
    unfold search
    split
    · rfl
    · split
      · exact enterStep_listeners p candidate _ r
      · exact ih _ _

@[simp] theorem searchOn_listeners (p : Plan) (grade : Nat) (r : ToneRecord) :
    (searchOn p grade r).listeners = r.listeners := search_listeners p grade _ _ _

@[simp] theorem cadenceWork_listeners (p : Plan) (grade : Nat) (r : ToneRecord) :
    (cadenceWork p grade r).listeners = r.listeners := by
  unfold cadenceWork
  split
  · rfl
  · dsimp only
    split <;> simp
  · unfold retestHeld
    split
    · rfl
    · split <;> simp
  · simp [searchFrom]

@[simp] theorem cadenceEntry_listeners (p : Plan) (grade : Nat) (r : ToneRecord) :
    (cadenceEntry p grade r).listeners = r.listeners := by
  unfold cadenceEntry
  split <;> simp [searchFrom]

@[simp] theorem advancePhases_listeners (r : ToneRecord) : (advancePhases r).listeners = r.listeners := by
  unfold advancePhases
  split <;> rfl

/-! ### Tone channels (R95 to R105) -/

section
variable {s : Station} (c : Channel)

theorem toneFrame_fits (h : s.CallersFit) : (toneFrame c s).CallersFit := by
  unfold toneFrame
  split
  next r hr =>
    exact (h.tone (r' := advancePhases (cadenceEntry (planOf s r) s.monitor.grade r)) hr (by simp)).same rfl rfl
  next => exact h

theorem stepToneQuiet_fits (h : s.CallersFit) : (stepToneQuiet c s).CallersFit := by
  unfold stepToneQuiet
  split
  next r hr => exact h.tone hr le_rfl
  next => exact h

theorem toneCadence_fits (h : s.CallersFit) : (toneCadence c s).CallersFit := by
  unfold toneCadence
  split
  next r hr => exact h.tone hr (by simp)
  next => exact h

theorem expireStep_fits (h : s.CallersFit) : (expireStep c s).CallersFit := by
  unfold expireStep
  split
  next r hr => exact h.tone hr (by simp)
  next => exact h

theorem expireTone_fits {w : Work} (h : w.CallersFit) : (expireTone c w).CallersFit := by
  unfold expireTone
  split
  next r hr =>
    have hcleared := h.tone (r' := { r with listeners := 0, quiet := w.station.tables.quietPeriod }) hr (Nat.zero_le _)
    dsimp only
    split
    · exact hcleared
    · exact endService_fits c hcleared
  next => exact h

theorem toneBoundary_fits {w : Work} (h : w.CallersFit) : (toneBoundary c w).CallersFit := by
  simp only [toneBoundary]
  refine toneCadence_fits c ?_
  split
  · exact expireTone_fits c (stepToneQuiet_fits c h)
  · exact stepToneQuiet_fits c h

theorem toneLeave_fits (h : s.CallersFit) : (toneLeave c s).CallersFit := by
  unfold toneLeave
  split
  next r hr =>
    split
    · exact h
    · have hleft := h.tone (r' := { r with listeners := r.listeners - 1, quiet := s.tables.quietPeriod }) hr
        (Nat.sub_le _ _)
      dsimp only
      split
      · exact finish_fits (endService_fits c (w := Work.begin _) hleft)
      · exact hleft
  next => exact h

theorem markStanding_fits (mark : Bool) (h : s.CallersFit) : (markStanding c mark s).CallersFit := by
  unfold markStanding
  split
  next r hr => exact h.tone hr le_rfl
  next => exact h

/-- A standing tone starts with no listeners (R104). -/
theorem coverPlan_fits (plan : Nat) (h : s.CallersFit) : (coverPlan plan s).CallersFit := by
  unfold coverPlan
  split
  · exact markStanding_fits _ true h
  · split
    next g c rest _ _ =>
      split
      · exact h.vacate c (.tone (newTone s plan true 0 g)) rfl rfl rfl
      · exact h
    next => exact h

theorem standingStart_fits (h : s.CallersFit) : (standingStart s).CallersFit := by
  unfold standingStart
  split
  · split
    · exact coverPlan_fits _ h
    · exact h
  · exact h

theorem releaseAndStart_fits (h : s.CallersFit) : (releaseAndStart s).CallersFit := by
  have hrelease : ∀ {s : Station}, s.CallersFit → (releaseSurplus s).CallersFit := fun h =>
    h.whenDue _ fun _ => releaseNewest_fits
  rcases releaseAndStart_cases s with heq | heq <;> rw [heq]
  · exact standingStart_fits (hrelease h)
  · exact hrelease (standingStart_fits h)

theorem drainStanding_fits (h : s.CallersFit) : (drainStanding c s).CallersFit := by
  unfold drainStanding
  split
  · split
    · split
      · exact returnChannel_fits 0 c h
      · exact markStanding_fits c false h
    · exact h
  · exact h

/-! ### Cycle channels (R74 to R89) -/

theorem endCycle_fits {w : Work} (h : w.CallersFit) : (endCycle c w).CallersFit := by
  unfold endCycle
  split
  · exact endService_fits c (h.same rfl rfl)
  · exact h

/-- The callers of a cycle that starts are those that listened and those that waited (R76). -/
theorem startCycle_fits {w : Work} (h : w.CallersFit) : (startCycle c w).CallersFit := by
  unfold startCycle
  split
  next r hr =>
    split
    · exact endCycle_fits c h
    · exact h.cycle hr le_rfl
  next => exact h

theorem engineAudioEnd_changes (r : CycleRecord) (s : Station) : ∃ e, engineAudioEnd r s = { s with engines := e } := by
  unfold engineAudioEnd
  split <;> exact ⟨_, rfl⟩

theorem endAudio_fits {w : Work} (h : w.CallersFit) : (endAudio c w).CallersFit := by
  unfold endAudio
  split
  next r hr =>
    split
    · exact endCycle_fits c h
    · obtain ⟨e, he⟩ := engineAudioEnd_changes r w.station
      have hgap : (setHolding c (.cycle { r with substate := .gap }) (engineAudioEnd r w.station)).CallersFit := by
        rw [he]
        exact (h.same rfl rfl : ({ w.station with engines := e } : Station).CallersFit).cycle hr le_rfl
      dsimp only
      split
      · exact startCycle_fits c hgap
      · exact hgap
  next => exact h

theorem expireCycle_fits {w : Work} (h : w.CallersFit) : (expireCycle c w).CallersFit := by
  unfold expireCycle
  split
  next r hr => exact h.cycle hr (Nat.add_le_add_right (Nat.zero_le _) _)
  next => exact h

theorem stepCycleQuiet_fits (h : s.CallersFit) : (stepCycleQuiet c s).CallersFit := by
  unfold stepCycleQuiet
  split
  next r hr => exact h.cycle hr le_rfl
  next => exact h

theorem stepCycleT_fits (h : s.CallersFit) : (stepCycleT c s).CallersFit := by
  unfold stepCycleT
  split
  next r hr => exact h.cycle hr le_rfl
  next => exact h

theorem nextSuperframe_fits (h : s.CallersFit) : (nextSuperframe c s).CallersFit := by
  unfold nextSuperframe
  split
  next r hr =>
    split
    · exact h.cycle hr le_rfl
    · exact h
  next => exact h

theorem cycleBoundary_fits {w : Work} (h : w.CallersFit) : (cycleBoundary c w).CallersFit := by
  have hends : ∀ v : Work, v.CallersFit → (if audioEndDue c v.station then endAudio c v
      else if startDue c v.station then startCycle c v
      else { v with station := nextSuperframe c v.station }).CallersFit := by
    intro v hv
    split
    · exact endAudio_fits c hv
    · split
      · exact startCycle_fits c hv
      · exact nextSuperframe_fits c hv
  refine hends _ (stepCycleT_fits c ?_)
  split
  · exact expireCycle_fits c (stepCycleQuiet_fits c h)
  · exact stepCycleQuiet_fits c h

/-- Of the holdings and the offer, playing touches the play position and the LATE mark of a CYCLE channel alone (R78,
R89). -/
theorem playFrame_touches (w : Work) : (playFrame c w).station.offer = w.station.offer
    ∧ ((playFrame c w).station.table.holding = w.station.table.holding
      ∨ ∃ r p l, w.station.table.holding.get c = .cycle r ∧ (playFrame c w).station.table.holding =
          w.station.table.holding.put c (.cycle { r with position := p, late := l })) := by
  unfold playFrame
  dsimp only
  split
  next r hr =>
    split
    · split
      · exact ⟨rfl, .inl rfl⟩
      · split
        · exact ⟨rfl, .inr ⟨r, _, _, hr, rfl⟩⟩
        · exact ⟨whenDue_leaves Station.offer _ (countUnderrun r.engine) _ rfl, .inr ⟨r, _, _, hr,
            congrArg (Tbl.put · c _) (whenDue_leaves (fun s => s.table.holding) _ (countUnderrun r.engine) _ rfl)⟩⟩
    · exact ⟨rfl, .inl rfl⟩
  next => exact ⟨rfl, .inl rfl⟩

theorem playFrame_fits {w : Work} (h : w.CallersFit) : (playFrame c w).CallersFit := by
  obtain ⟨hoffer, hsame | ⟨r, p, l, hr, hput⟩⟩ := playFrame_touches c w
  · exact h.same hsame hoffer
  · refine h.put c _ ?_ hput hoffer
    exact (congrArg Holding.callers hr).ge

theorem cycleLeave_fits (tag : BitVec 8) (h : s.CallersFit) : (cycleLeave c tag s).CallersFit := by
  unfold cycleLeave
  split
  next r hr =>
    refine h.cycle hr ?_
    unfold CycleRecord.leave
    split
    · exact Nat.add_le_add_left (List.length_eraseP_le (l := r.waiting)) _
    · split
      · exact le_rfl
      · exact Nat.add_le_add_right (Nat.sub_le _ _) _
  next => exact h

end

end Sys2Proof.Machine
end

/-! What a frame pulse, a store step and the loader keep of the callers. -/
section
namespace Sys2Proof.Machine

section
variable {s : Station}

/-! ### The boundary and the frame (R2, R6, R20, R43, R45, R51) -/

theorem monitorBoundary_fits {w : Work} (h : w.CallersFit) : (monitorBoundary w).CallersFit := by
  obtain ⟨m, ps, heq⟩ := monitorBoundary_changes w
  rw [heq]
  exact h.same rfl rfl

theorem listeningBoundary_fits {w : Work} (h : w.CallersFit) : (listeningBoundary w).CallersFit := by
  unfold listeningBoundary
  dsimp only
  split
  · split <;> exact h.same rfl rfl
  · exact h

theorem startSearch_fits (h : s.CallersFit) : (startSearch s).CallersFit := by
  unfold startSearch
  split
  · exact h
  · exact h.recorder _

theorem startSearch_work_fits {w : Work} (h : w.CallersFit) :
    Work.CallersFit { w with station := startSearch w.station } := startSearch_fits h

theorem boundaryWork_fits (resumed : Bool) (h : s.CallersFit) : (boundaryWork resumed s).CallersFit := by
  have hbegin : (Work.begin { s with table := s.table.atBoundary }).CallersFit := h.same rfl rfl
  have hchannels := eachChannel_keeps Work.CallersFit cycleBoundary (fun c _ => cycleBoundary_fits c) _
    (eachChannel_keeps Work.CallersFit toneBoundary (fun c _ => toneBoundary_fits c) _ hbegin)
  have hsearch := startSearch_work_fits (monitorBoundary_fits hchannels)
  unfold boundaryWork
  dsimp only
  split
  · exact hsearch
  · exact listeningBoundary_fits hsearch

theorem boundaryBefore_fits (isBoundary resumed : Bool) (h : s.CallersFit) :
    (boundaryBefore isBoundary resumed s).CallersFit := by
  unfold boundaryBefore
  split
  · exact boundaryWork_fits resumed h
  · exact h

/-- A frame that begins drops the offer in hand (R55). -/
theorem startFrame_fits (number : Nat) (h : s.CallersFit) : (startFrame number s).CallersFit := by
  have hstep : (stepCountdown (openFrame number s)).offer = none := by
    unfold stepCountdown
    split
    · rfl
    · exact whenDue_leaves Station.offer _ enterHalted _ rfl
  refine h.next (fun c => ?_) (.inl ?_)
  · simp [startFrame, formTarget, openFrame]
  · simp [startFrame, hstep]

theorem drainCheck_fits (h : s.CallersFit) : (drainCheck s).CallersFit := by
  unfold drainCheck
  split
  · exact (h.same rfl rfl : (enterResting s).CallersFit).post _
  · exact h

theorem claim_fits (h : s.CallersFit) : (claim s).CallersFit := by
  unfold claim
  split
  · exact h.same rfl rfl
  · exact h

theorem ageBackOff_fits (h : s.CallersFit) : (ageBackOff s).CallersFit := h.same rfl rfl

theorem beginServing_fits (h : s.CallersFit) : (beginServing s).CallersFit := h.same rfl rfl

theorem gradeFall_fits (h : s.CallersFit) : (gradeFall s).CallersFit := by
  have hlower : ({ s with monitor := s.monitor.lower } : Station).CallersFit := h.same rfl rfl
  exact hlower.post _

theorem frameWork_fits (h : s.CallersFit) : (frameWork s).CallersFit := by
  have htones := eachChannel_keeps Station.CallersFit toneFrame (fun c _ => toneFrame_fits c) s h
  exact drainCheck_fits (claim_fits (releaseAndStart_fits (ageBackOff_fits htones)))

theorem playAll_fits (h : s.CallersFit) : (playAll s).CallersFit := by
  have hplayed : (eachChannel playFrame (Work.begin s)).station.CallersFit :=
    eachChannel_keeps Work.CallersFit playFrame (fun c _ => playFrame_fits c) (Work.begin s) h
  exact hplayed.postAll _

theorem Station.CallersFit.draw (h : s.CallersFit) (n : Nat) : ({ s with draw := n } : Station).CallersFit :=
  h.same rfl rfl

theorem acceptPulse_fits (long : Bool) (h : s.CallersFit) : (acceptPulse long s).CallersFit := by
  have frame_fits : ∀ (w : Work) (number : Nat) (ps : List Notice) (target : Nat) (cs : List Channel),
      w.CallersFit →
      (playAll (frameWork (returnAll target cs (startFrame number (postAll ps w.station))))).CallersFit :=
    fun w number ps target cs hw =>
      playAll_fits (frameWork_fits (returnAll_fits target cs (startFrame_fits number (hw.postAll ps))))
  have hresumed : (whenDue (resumes s) resume s).CallersFit := h.whenDue _ fun _ h => h.same rfl rfl
  unfold acceptPulse
  exact (frame_fits _ _ _ _ _ (boundaryBefore_fits _ _ hresumed)).draw _

/-! ### The store step (R143) -/

/-- What the condition looks at: the holdings and the offer in hand. -/
def Station.callersPart (s : Station) : Tbl 48 Holding × Option Offer := (s.table.holding, s.offer)

/-- Neither what falls due at a store step nor its command touches what the condition looks at. -/
theorem outsideStep_callersPart : OutsideStep Station.callersPart := ⟨fun _ _ _ _ _ _ _ _ => rfl, fun _ _ => rfl⟩

theorem Station.CallersFit.outside {t : Station} (h : s.CallersFit) (heq : t.callersPart = s.callersPart) :
    t.CallersFit := h.same (congrArg Prod.fst heq) (congrArg Prod.snd heq)

theorem prepareStep_fits (h : s.CallersFit) : (prepareStep s).CallersFit :=
  h.outside (outsideStep_callersPart.prepareStep s)

theorem decideAndCarry_fits (h : s.CallersFit) : (decideAndCarry s).CallersFit := by
  refine h.outside ?_
  rw [decideAndCarry_part Station.callersPart outsideStep_callersPart.engines outsideStep_callersPart.2 s _ rfl,
    outsideStep_callersPart.performDecision, wrapEngines_leaves _ outsideStep_callersPart.engines]

theorem wholeStep_fits (h : s.CallersFit) : (wholeStep s).CallersFit := by
  refine h.outside ?_
  rw [wholeStep_eq, closeStep_part Station.callersPart (fun _ _ _ => rfl), outsideStep_callersPart.stepCarried]

theorem pulseLoss_fits (s : Station) : (pulseLoss s).CallersFit := by
  refine (pulseLoss_idle s).callersFit ?_
  cases hc : s.orders.countdown <;> simp [pulseLoss, startLocalFrame, hc]

theorem shelfReset_fits (s : Station) : (shelfReset s).CallersFit := by
  refine (shelfReset_idle s).callersFit ?_
  cases hc : s.orders.countdown <;> simp [shelfReset, hc]

theorem storeStep_fits (h : s.CallersFit) : (storeStep s).CallersFit :=
  (wholeStep_fits h).whenDue _ fun _ _ => pulseLoss_fits _

theorem issueNow_fits (cmd : StoreCmd) (h : s.CallersFit) : (issueNow cmd s).CallersFit := by
  unfold issueNow
  split
  · exact decideAndCarry_fits (prepareStep_fits h)
  · exact h

theorem issuePut_fits (close : Bool) (h : s.CallersFit) : (issuePut close s).CallersFit := by
  unfold issuePut
  split
  · split
    · exact issueNow_fits _ h
    · exact h
  · exact h

theorem issueSetup_fits (h : s.CallersFit) : (issueSetup s).CallersFit := by
  unfold issueSetup
  split
  · exact issueNow_fits _ h
  · exact h

theorem framePulse_fits (long inStep : Bool) (h : s.CallersFit) : (framePulse long inStep s).CallersFit := by
  unfold framePulse
  split
  · exact h
  · exact acceptPulse_fits long (h.whenDue _ fun _ => wholeStep_fits)

theorem startLocalFrame_fits (h : s.CallersFit) : (startLocalFrame s).CallersFit :=
  h.same (by simp [startLocalFrame]) (by simp [startLocalFrame])

theorem arrivals_fits (h : s.CallersFit) : (arrivals s).CallersFit := by
  obtain ⟨e, heq⟩ := arrivals_changes s
  rw [heq]
  exact h.same rfl rfl

/-! ### The loader (R171 to R176) -/

theorem checkImage_changes (s : Station) :
    ∃ o st t l, checkImage s = { s with orders := o, store := st, tables := t, loader := l } := by
  unfold checkImage
  dsimp only
  split
  · exact ⟨_, _, s.tables, s.loader, rfl⟩
  · exact ⟨s.orders, _, _, _, rfl⟩

theorem headerByte_changes (b : Byte) (s : Station) :
    ∃ o st l, headerByte b s = { s with orders := o, store := st, loader := l } := by
  unfold headerByte
  dsimp only
  split
  · split
    · exact ⟨s.orders, s.store, _, rfl⟩
    · exact ⟨_, _, _, rfl⟩
  · split
    · split
      · exact ⟨_, _, _, rfl⟩
      · exact ⟨s.orders, s.store, _, rfl⟩
    · exact ⟨s.orders, s.store, _, rfl⟩

theorem takeFlashByte_fits (b : Byte) (h : s.CallersFit) : (takeFlashByte b s).CallersFit := by
  unfold takeFlashByte
  split
  · split
    · obtain ⟨o, st, l, heq⟩ := headerByte_changes b s
      rw [heq]
      exact h.same rfl rfl
    · exact h.same rfl rfl
    · unfold crcByteRead
      dsimp only
      split
      · obtain ⟨o, st, t, l, heq⟩ := checkImage_changes { s with loader := { s.loader with
          partBytes := s.loader.partBytes ++ [b], readPosition := s.loader.readPosition + 1 } }
        rw [heq]
        exact h.same rfl rfl
      · exact h.same rfl rfl
    · unfold audioByte
      split
      · exact h.same rfl rfl
      · exact h
    · exact h
  · exact h

end

end Sys2Proof.Machine
end

/-! What the reply positions keep of the callers: a JOIN's offer is made where there is room, and the caller it brings
comes when the offer is gone from the hand (R61, R67, R68). -/
section
namespace Sys2Proof.Machine

section
variable {s : Station}

/-! ### JOIN and its outcome (R55, R61, R67 to R70) -/

theorem takeOrder_fits (h : s.CallersFit) : (takeOrder s).CallersFit := h.same rfl rfl

theorem driveReply_fits (w : Word) (h : s.CallersFit) : (driveReply w s).CallersFit := h.same rfl rfl

/-- An offer is taken in hand where its channel has room for the caller (R61). -/
theorem joinReply_fits (order : Order) (signal : Nat) (mode : Mode) (flag : Bool) (h : s.CallersFit) :
    (joinReply order signal mode flag s).CallersFit := by
  by_cases hserving : s.orders.state = .serving
  · rw [joinReply_weighed order signal mode flag s hserving]
    cases hweighed : weighJoin s order.cls order.tag signal mode flag with
    | none => exact h
    | some x =>
      refine ⟨h.within, fun o ho hkind => ?_⟩
      cases ho
      exact weighJoin_room s order.cls order.tag signal mode flag x hweighed hkind
  · rwa [joinReply_undriven order signal mode flag s (.inl hserving)]

theorem joinPosition_fits (h : s.CallersFit) : (joinPosition s).CallersFit := by
  unfold joinPosition
  split
  · split
    · exact joinReply_fits _ _ _ _ (takeOrder_fits h)
    · exact h
  · exact h

theorem offerOutcome_some (others : List Word) (s : Station) (o : Offer) (won : Bool)
    (h : offerOutcome others s = some (o, won)) : s.offer = some o := by
  unfold offerOutcome at h
  split at h
  next hoffer _ =>
    cases h
    exact hoffer
  next => cases h

/-- With no offer in hand, a channel may come to 255 callers. -/
theorem Station.CallersFit.callerOn {t : Station} (h : s.CallersFit) (c : Channel) (x : Holding) (hle : x.callers ≤ 255)
    (hholding : t.table.holding = s.table.holding.put c x) (hoffer : t.offer = none) : t.CallersFit := by
  refine ⟨fun d => ?_, fun o ho => by rw [hoffer] at ho; cases ho⟩
  rw [hholding, Tbl.get_put]
  split
  · exact hle
  · exact h.within d

theorem CycleRecord.join_callers (r : CycleRecord) (o : Offer) (quietPeriod : Nat) :
    (Holding.cycle (r.join o quietPeriod)).callers = (Holding.cycle r).callers + 1 := by
  simp only [CycleRecord.join]
  split
  · simp [Holding.callers, Nat.add_assoc]
  · simp [Holding.callers, Nat.add_right_comm]

/-- A won EXISTING offer brings its channel one caller, which the channel has room for (R61, R67). -/
theorem bindToChannel_fits (o : Offer) (h : s.CallersFit) (hnone : s.offer = none)
    (hroom : (s.table.holding.get o.channel).callers < 255) : (bindToChannel o s).CallersFit := by
  unfold bindToChannel
  split
  next r hr =>
    rw [hr] at hroom
    exact h.callerOn o.channel (.tone (r.join s.tables.quietPeriod)) hroom rfl hnone
  next r hr =>
    rw [hr] at hroom
    refine h.callerOn o.channel (.cycle (r.join o s.tables.quietPeriod)) ?_ rfl hnone
    rw [CycleRecord.join_callers]
    exact hroom
  next => exact h

theorem dropOffer_fits (h : s.CallersFit) : (dropOffer s).CallersFit := h.next (fun _ => le_rfl) (.inl rfl)

theorem bindExisting_fits (others : List Word) (h : s.CallersFit) : (bindExisting others s).CallersFit := by
  unfold bindExisting
  split
  next o houtcome =>
    split
    · exact h
    next hkind =>
      exact bindToChannel_fits o (dropOffer_fits h) rfl
        (h.room o (offerOutcome_some others s o true houtcome) (Bool.not_eq_true _ ▸ hkind))
  next => exact h

/-- A tone channel newly bound has one listener (R68). -/
theorem bindNewTone_fits (o : Offer) (h : s.CallersFit) (hnone : s.offer = none) : (bindNewTone o s).CallersFit := by
  unfold bindNewTone
  split
  next g _ =>
    split
    · exact h.callerOn o.channel (.tone (newTone s o.signal false 1 g)) (by decide : 1 ≤ 255) rfl hnone
    · exact h
  next => exact h

theorem newCycle_callers (o : Offer) (quietPeriod : Nat) (e : Fin 16) :
    (Holding.cycle (newCycle o quietPeriod e)).callers = 1 := by
  cases hm : o.mode <;> simp [Holding.callers, newCycle, hm]

/-- A cycle channel newly bound has one listener, or one pending record (R68). -/
theorem bindNewCycle_fits (o : Offer) (h : s.CallersFit) (hnone : s.offer = none) : (bindNewCycle o s).CallersFit := by
  unfold bindNewCycle
  split
  next e entry _ _ =>
    split
    · refine h.callerOn o.channel (.cycle (newCycle o s.tables.quietPeriod e)) ?_ rfl hnone
      rw [newCycle_callers]
      decide
    · exact h
  next => exact h

theorem refuseTake_fits (c : Channel) (h : s.CallersFit) : (refuseTake c s).CallersFit := by
  unfold refuseTake
  split
  · exact h
  · exact h.post _

theorem bindNewOffer_fits (o : Offer) (h : s.CallersFit) (hnone : s.offer = none) : (bindNewOffer o s).CallersFit := by
  unfold bindNewOffer
  split
  · split
    · exact bindNewTone_fits o h hnone
    · exact bindNewCycle_fits o h hnone
  · exact refuseTake_fits _ h

theorem bindNew_fits (others : List Word) (h : s.CallersFit) : (bindNew others s).CallersFit := by
  unfold bindNew
  split
  · split
    · exact bindNewOffer_fits _ (dropOffer_fits h) rfl
    · exact h
  · exact h

theorem loseOffer_fits (others : List Word) (h : s.CallersFit) : (loseOffer others s).CallersFit := by
  unfold loseOffer
  split
  · exact dropOffer_fits h
  · exact h

/-! ### LEAVE and the addressed orders (R36 to R48, R80, R101) -/

theorem answer_fits (station : Nat) (refusal : Option Reason) {accept : Station → Station} (h : s.CallersFit)
    (haccept : (accept s).CallersFit) : (answer station refusal accept s).CallersFit := by
  unfold answer
  split
  · split
    · exact driveReply_fits _ h
    · exact haccept
  · exact h

theorem leavePosition_fits (h : s.CallersFit) : (leavePosition s).CallersFit := by
  unfold leavePosition
  split
  · split
    · unfold applyLeave
      split
      · unfold leaveChannel
        split
        · exact toneLeave_fits _ (takeOrder_fits h)
        · exact cycleLeave_fits _ _ (takeOrder_fits h)
        · exact takeOrder_fits h
      · exact takeOrder_fits h
    · exact h
  · exact h

theorem probePosition_fits (h : s.CallersFit) : (probePosition s).CallersFit := by
  unfold probePosition
  split
  · split
    · exact answer_fits _ _ (takeOrder_fits h) (h.same rfl rfl)
    · exact h
  · exact h

theorem beginRecording_fits (id cls : Nat) (c : Channel) (h : s.CallersFit) :
    (beginRecording id cls c s).CallersFit := by
  unfold beginRecording
  split
  · exact h.vacate c .record rfl rfl rfl
  · exact refuseTake_fits c h

theorem acceptRecord_fits (id cls : Nat) (between : Option (List OwnerCode)) (h : s.CallersFit) :
    (acceptRecord id cls between s).CallersFit := by
  unfold acceptRecord
  split
  · exact h
  · refine beginRecording_fits _ _ _ ?_
    cases between with
    | none => exact driveReply_fits _ h
    | some others => exact (driveReply_fits _ h).whenDue _ fun _ => ownerPosition_fits _ others

theorem recordPosition_fits (between : Option (List OwnerCode)) (h : s.CallersFit) :
    (recordPosition between s).CallersFit := by
  unfold recordPosition
  split
  · split
    · exact answer_fits _ _ (takeOrder_fits h) (acceptRecord_fits _ _ _ (takeOrder_fits h))
    · exact h
  · exact h

theorem acceptCommit_fits (h : s.CallersFit) : (acceptCommit s).CallersFit := by
  unfold acceptCommit
  split
  · exact h
  · exact commitRecording_fits (driveReply_fits _ h)

theorem acceptDiscard_fits (h : s.CallersFit) : (acceptDiscard s).CallersFit :=
  discardRecording_fits (driveReply_fits _ h)

theorem finishPosition_fits (action : FinishAction) {accept : Station → Station}
    (haccept : ∀ {s : Station}, s.CallersFit → (accept s).CallersFit) (h : s.CallersFit) :
    (finishPosition action accept s).CallersFit := by
  unfold finishPosition
  split
  · split
    · split
      · exact answer_fits _ _ (takeOrder_fits h) (haccept (takeOrder_fits h))
      · exact h
    · exact h
  · exact h

theorem servicePosition_fits (action : ServiceAction) {act : Station → Station}
    (hact : ∀ {s : Station}, s.CallersFit → (act s).CallersFit) (h : s.CallersFit) :
    (servicePosition action act s).CallersFit := by
  unfold servicePosition
  split
  · split
    · split
      · refine answer_fits _ _ (takeOrder_fits h) ?_
        unfold acceptService
        split
        · exact takeOrder_fits h
        · exact hact (driveReply_fits _ (takeOrder_fits h))
      · exact h
    · exact h
  · exact h

theorem drain_fits (h : s.CallersFit) : (drain s).CallersFit := by
  unfold drain
  split
  · exact eachChannel_keeps Station.CallersFit drainStanding (fun c _ => drainStanding_fits c) (enterState .draining s)
      (h.same rfl rfl)
  · exact h.same rfl rfl

theorem force_fits (h : s.CallersFit) : (force s).CallersFit := by
  refine h.next (fun c => ?_) (.inr rfl)
  simp [force, Holding.callers]

theorem bringBack_fits (h : s.CallersFit) : (bringBack s).CallersFit := by
  unfold bringBack
  split <;> exact h.same rfl rfl

/-! ### Notice and order positions (R16, R35, R53) -/

theorem enterHalted_fits (h : s.CallersFit) : (enterHalted s).CallersFit := h.same rfl rfl

theorem driveNotice_fits (h : s.CallersFit) : (driveNotice s).CallersFit := by
  unfold driveNotice
  dsimp only
  split <;> exact h.same rfl rfl

theorem settleNotice_fits (n : Notice) (won : Bool) (h : s.CallersFit) : (settleNotice n won s).CallersFit := by
  have hsettled : ∀ l, ({ s with orders := { s.orders with
      latch := l, driving := none, drivenStands := false } } : Station).CallersFit := fun _ => h.same rfl rfl
  exact (hsettled _).whenDue _ fun _ => enterHalted_fits

theorem noticeOutcome_fits (others : List Word) (h : s.CallersFit) : (noticeOutcome others s).CallersFit := by
  unfold noticeOutcome
  split
  · exact settleNotice_fits _ _ h
  · exact h

theorem noticePosition_fits (event : NoticeEvent) (h : s.CallersFit) : (noticePosition event s).CallersFit := by
  cases event with
  | whole others =>
    exact h.whenDue _ (f := fun s => noticeOutcome others (driveNotice s)) fun _ h =>
      noticeOutcome_fits others (driveNotice_fits h)
  | drive => exact h.whenDue _ fun _ => driveNotice_fits
  | outcome others => exact noticeOutcome_fits others h

theorem orderPosition_fits (word : Word) (h : s.CallersFit) : (orderPosition word s).CallersFit := by
  have hcount : (countBreak word s).CallersFit := h.same rfl rfl
  exact (hcount.whenDue (breakDue (countBreak word s)) (f := shelfReset) fun _ _ => shelfReset_fits _).same rfl rfl

end

/-! ### Every command -/

section
variable {s t : State}

theorem run_fits {f : Station → Station} (hrun : s.run f = .next t) (hf : (f s.toStation).CallersFit) :
    t.toStation.CallersFit := by
  rw [State.run_next s t f hrun]
  exact hf

variable (h : s.toStation.CallersFit)
include h

theorem runChannel_fits {c : Nat} {f : Channel → Station → Station} (hrun : s.runChannel c f = .next t)
    (hf : ∀ c {s : Station}, s.CallersFit → (f c s).CallersFit) : t.toStation.CallersFit := by
  obtain ⟨hc, rfl⟩ := State.runChannel_next s t c f hrun
  exact hf _ h

theorem runBank_fits {b : Nat} {f : Fin 8 → Station → Station} (hrun : s.runBank b f = .next t)
    (hf : ∀ b {s : Station}, s.CallersFit → (f b s).CallersFit) : t.toStation.CallersFit := by
  obtain ⟨hb, rfl⟩ := State.runBank_next s t b f hrun
  exact hf _ h

theorem runEngine_fits {e : Nat} {f : Fin 16 → Station → Station} (hrun : s.runEngine e f = .next t)
    (hf : ∀ e {s : Station}, s.CallersFit → (f e s).CallersFit) : t.toStation.CallersFit := by
  obtain ⟨he, rfl⟩ := State.runEngine_next s t e f hrun
  exact hf _ h

/-- Every command keeps the callers within 255 on each channel, and room for the offer in hand. -/
theorem exec_fits {i : Instr} (hexec : exec i s = .next t) : t.toStation.CallersFit := by
  cases i with simp only [exec] at hexec
  | pinReset pins => exact run_fits hexec ((pinReset_idle pins _).callersFit rfl)
  | framePulse pulse => exact run_fits hexec (framePulse_fits _ _ h)
  | pulseLoss => exact run_fits hexec (h.whenDue _ fun _ _ => pulseLoss_fits _)
  | localFrame => exact run_fits hexec (h.whenDue _ fun _ => startLocalFrame_fits)
  | storeStep => exact run_fits hexec (storeStep_fits h)
  | ownerPosition n others =>
    exact runChannel_fits h hexec fun c _ h => h.whenDue _ fun _ => ownerPosition_fits c others
  | samplePosition n others =>
    exact runChannel_fits h hexec fun c _ h => h.whenDue _ fun _ => samplePosition_fits c others
  | contentionSurrender n => exact runChannel_fits h hexec fun c _ h => h.whenDue _ fun _ => loseChannel_fits c 15
  | orderPosition word => exact run_fits hexec (h.whenDue _ fun _ => orderPosition_fits word)
  | shelfReset => exact run_fits hexec (h.whenDue _ fun _ _ => shelfReset_fits _)
  | join => exact run_fits hexec (joinPosition_fits h)
  | leave => exact run_fits hexec (leavePosition_fits h)
  | probe => exact run_fits hexec (probePosition_fits h)
  | record between => exact run_fits hexec (recordPosition_fits between h)
  | finishCommit => exact run_fits hexec (finishPosition_fits _ acceptCommit_fits h)
  | finishDiscard => exact run_fits hexec (finishPosition_fits _ acceptDiscard_fits h)
  | serviceDrain => exact run_fits hexec (servicePosition_fits _ drain_fits h)
  | serviceForce => exact run_fits hexec (servicePosition_fits _ force_fits h)
  | serviceReturn => exact run_fits hexec (servicePosition_fits _ bringBack_fits h)
  | serviceNone => exact run_fits hexec (servicePosition_fits _ id h)
  | noticePosition event => exact run_fits hexec (noticePosition_fits event h)
  | bindExisting others => exact run_fits hexec (bindExisting_fits others h)
  | bindNew others => exact run_fits hexec (bindNew_fits others h)
  | offerLost others => exact run_fits hexec (loseOffer_fits others h)
  | backOffExpiry n => exact runChannel_fits h hexec fun c _ h => h.whenDue _ fun _ h => h.same rfl rfl
  | stepExpiry n => exact runChannel_fits h hexec fun c _ h => h.whenDue _ fun _ => expireStep_fits c
  | toneQuietExpiry n =>
    exact runChannel_fits h hexec fun c s h => h.whenDue _ fun _ h => finish_fits (expireTone_fits c (w := .begin s) h)
  | cycleQuietExpiry n =>
    exact runChannel_fits h hexec fun c s h => h.whenDue _ fun _ h => finish_fits (expireCycle_fits c (w := .begin s) h)
  | audioEnd n =>
    exact runChannel_fits h hexec fun c s h => h.whenDue _ fun _ h => finish_fits (endAudio_fits c (w := .begin s) h)
  | startBoundary n =>
    exact runChannel_fits h hexec fun c s h => h.whenDue _ fun _ h => finish_fits (startCycle_fits c (w := .begin s) h)
  | gradeFall => exact run_fits hexec (h.whenDue _ fun _ => gradeFall_fits)
  | listeningComplete => exact run_fits hexec (h.whenDue _ fun _ h => Station.CallersFit.post (beginServing_fits h) _)
  | haltCountdownEnd => exact run_fits hexec (h.whenDue _ fun _ => enterHalted_fits)
  | openRow b row =>
    unfold execOpen at hexec
    split at hexec
    · exact runBank_fits h hexec fun _ _ => issueNow_fits _
    · cases hexec
  | fetch n => exact runEngine_fits h hexec fun _ _ => issueNow_fits _
  | fetchClose n => exact runEngine_fits h hexec fun _ _ => issueNow_fits _
  | put => exact run_fits hexec (issuePut_fits _ h)
  | putClose => exact run_fits hexec (issuePut_fits _ h)
  | close b => exact runBank_fits h hexec fun _ _ => issueNow_fits _
  | renew => exact run_fits hexec (issueNow_fits _ h)
  | setup => exact run_fits hexec (issueSetup_fits h)
  | selfRenewEntry => exact run_fits hexec (issueNow_fits _ h)
  | selfRenewExit => exact run_fits hexec (issueNow_fits _ h)
  | pendingClose b => exact runBank_fits h hexec fun _ _ h => h.whenDue _ fun _ h => h.same rfl rfl
  | storeQuietEnd => exact run_fits hexec (h.whenDue _ fun _ h => h.same rfl rfl)
  | fetchDataArrival => exact run_fits hexec (h.whenDue _ fun _ => arrivals_fits)
  | renewDebtRise => exact run_fits hexec (h.whenDue _ fun _ h => h.same rfl rfl)
  | captureStart => exact run_fits hexec (h.whenDue _ fun _ => startCapture_fits)
  | endSilenceStop => exact run_fits hexec (h.whenDue _ fun _ => stopCapture_fits)
  | fullAreaStop => exact run_fits hexec (h.whenDue _ fun _ => stopCapture_fits)
  | flashByte byte => exact run_fits hexec (takeFlashByte_fits byte h)

end

end Sys2Proof.Machine

namespace Sys2Proof.Proofs
open Sys2Proof Sys2Proof.Machine

/-- Settles O58: an EXISTING offer is made where its channel has room, no event but a won offer brings a channel a
caller, and with it the offer is gone. -/
theorem stepKeepsCallersWithin255 : Obligations.StepKeepsCallersWithin255 := by
  intro s t hs hstep
  rw [callersOk_iff] at hs ⊢
  unfold step at hstep
  split at hstep
  next =>
    cases hstep
    exact hs
  next command rest _ => exact exec_fits (s := { s with pending := rest }) hs hstep

end Sys2Proof.Proofs
end


/-! The ends of an announcement's audio and of its gap: a channel nobody hears ends, and every other goes on with its
next cycle (chapter 5). -/
section
namespace Sys2Proof.Machine

/-! ### The end check (R75, R76) -/

theorem deserted_of_nobody (r : CycleRecord) (hl : r.listeners = 0) (hw : r.waiting = []) : r.deserted = true := by
  simp [CycleRecord.deserted, hl, hw]

theorem deserted_of_somebody (r : CycleRecord) (h : r.listeners ≠ 0 ∨ r.waiting ≠ []) : r.deserted = false := by
  rcases h with hl | hw
  · simp [CycleRecord.deserted, hl]
  · simp [CycleRecord.deserted, hw]

/-! ### The end of a channel (R85) -/

@[simp] theorem engineAt_freeEngineSlot (e : Fin 16) (s : Station) : engineAt (freeEngineSlot e s) e = none := by
  simp [engineAt, freeEngineSlot]

/-- A CYCLE channel that ends frees its engine and goes to POOL or to NONE, and every other channel stands (R26,
R85). -/
theorem finish_endCycle (c : Channel) (r : CycleRecord) (s : Station) (hr : s.table.holding.get c = .cycle r) :
    ∃ t f, (endCycle c (Work.begin s)).finish =
        { s with table := t, engines := (freeEngineSlot r.engine s).engines, formed := f }
      ∧ t.holding.get c = (if s.table.pool.length < s.table.target then .pool else .none)
      ∧ ∀ d, d ≠ c → t.holding.get d = s.table.holding.get d := by
  have hends : endCycle c (Work.begin s) = Work.endService c ⟨freeEngineSlot r.engine s, [], []⟩ := by
    simp [endCycle, Work.begin, hr]
  obtain ⟨t, f, hchanges⟩ := finish_endService_changes c (freeEngineSlot r.engine s) []
  have hheld := finish_endService_holding c (freeEngineSlot r.engine s) []
  have hother := finish_endService_other c (freeEngineSlot r.engine s) []
  rw [hchanges] at hheld hother
  exact ⟨t, f, by rw [hends, hchanges]; rfl, hheld, hother⟩

/-! ### The start boundary (R76, R77) -/

theorem latchedLength_of_engine (s : Station) (r : CycleRecord) (eng : Engine) (h : engineAt s r.engine = some eng) :
    latchedLength s r = eng.area.length := by
  simp [latchedLength, h]

theorem gapOf_of_entry (s : Station) (r : CycleRecord) (e : Entry) (h : findEntry s r.announcement = some e) :
    gapOf s r = e.gap := by
  simp [gapOf, h]

theorem startCycle_deserted (c : Channel) (r : CycleRecord) (w : Work)
    (hr : w.station.table.holding.get c = .cycle r) (hnobody : r.deserted = true) : startCycle c w = endCycle c w := by
  simp [startCycle, hr, hnobody]

theorem startCycle_attended (c : Channel) (r : CycleRecord) (w : Work) (eng : Engine) (e : Entry)
    (hr : w.station.table.holding.get c = .cycle r) (hsomebody : r.deserted = false)
    (heng : engineAt w.station r.engine = some eng) (he : findEntry w.station r.announcement = some e) :
    startCycle c w =
      { w with station := setHolding c (.cycle (r.begin eng.area.length e.gap)) w.station } := by
  simp [startCycle, hr, hsomebody, latchedLength_of_engine _ r eng heng, gapOf_of_entry _ r e he]

theorem exec_startBoundary (s : State) (c : Channel) (r : CycleRecord) (hr : s.table.holding.get c = .cycle r)
    (ht : r.t = 0) (hsub : r.substate ≠ .playing) :
    exec (.startBoundary c.val) s = .next ⟨(startCycle c (Work.begin s.toStation)).finish, s.pending⟩ := by
  have hdue : startDue c s.toStation = true := by simp [startDue, hr, ht, hsub]
  simp [exec, execStartBoundary, hdue]

/-! ### The engine at the audio end (R122, R123, R127) -/

@[simp] theorem audioEnd_mark (eng : Engine) (area : Area) :
    (eng.audioEnd area).mark = { cycle := eng.mark.cycle + 1, number := 0 } := by
  unfold Engine.audioEnd
  split <;> rfl

@[simp] theorem audioEnd_run (eng : Engine) (area : Area) : (eng.audioEnd area).run = false := by
  unfold Engine.audioEnd
  split <;> rfl

/-- A pointer within the ended cycle or past its end wraps, latching the area given (R127). -/
theorem audioEnd_wraps (eng : Engine) (area : Area) (h : eng.pointer.cycle ≤ eng.mark.cycle) :
    (eng.audioEnd area).pointer = { cycle := eng.mark.cycle + 1, burst := 0 } ∧ (eng.audioEnd area).area = area := by
  rw [Engine.audioEnd, if_pos h]
  exact ⟨rfl, rfl⟩

/-- A pointer in the next cycle already has its area, and stands (R127). -/
theorem audioEnd_stands (eng : Engine) (area : Area) (h : eng.mark.cycle < eng.pointer.cycle) :
    (eng.audioEnd area).pointer = eng.pointer ∧ (eng.audioEnd area).area = eng.area := by
  rw [Engine.audioEnd, if_neg (Nat.not_le.mpr h)]
  exact ⟨rfl, rfl⟩

@[simp] theorem engineAt_setEngine (e : Fin 16) (eng : Engine) (s : Station) :
    engineAt (setEngine e eng s) e = some eng := by
  simp [engineAt, setEngine]

theorem setEngine_other (e x : Fin 16) (eng : Engine) (s : Station) (hx : x ≠ e) :
    (setEngine e eng s).engines.get x = s.engines.get x := by
  simp [setEngine, Ne.symm hx]

theorem engineAudioEnd_bound (r : CycleRecord) (s : Station) (eng : Engine) (e : Entry)
    (heng : engineAt s r.engine = some eng) (he : findEntry s r.announcement = some e) :
    engineAudioEnd r s = setEngine r.engine (eng.audioEnd e.area) s := by
  simp [engineAudioEnd, heng, currentArea, he]

/-! ### The audio end (R75) -/

/-- The work of an audio end after which the channel goes on, up to the start check: the channel in GAP, and its engine
as told of the audio end (R75, R122, R123). -/
def Work.openGap (c : Channel) (r : CycleRecord) (eng : Engine) (w : Work) : Work :=
  { w with station := setHolding c (.cycle { r with substate := .gap }) (setEngine r.engine eng w.station) }

/-- A channel in GAP starts where T stands at 0 (R74, R75). -/
theorem startDue_openGap (c : Channel) (r : CycleRecord) (eng : Engine) (w : Work) :
    startDue c (w.openGap c r eng).station = (r.t == 0) := by
  simp only [startDue, Work.openGap, setHolding_get_same]
  exact Bool.and_true _

theorem startCycle_openGap (c : Channel) (r : CycleRecord) (eng : Engine) (e : Entry) (w : Work)
    (hsomebody : r.deserted = false) (he : findEntry w.station r.announcement = some e) :
    startCycle c (w.openGap c r eng) = { w with
      station := setHolding c (.cycle (r.begin eng.area.length e.gap)) (w.openGap c r eng).station } :=
  startCycle_attended c { r with substate := .gap } (w.openGap c r eng) eng e (setHolding_get_same c _ _) hsomebody
    (engineAt_setEngine r.engine eng w.station) he

theorem endAudio_deserted (c : Channel) (r : CycleRecord) (w : Work)
    (hr : w.station.table.holding.get c = .cycle r) (hnobody : r.deserted = true) : endAudio c w = endCycle c w := by
  simp [endAudio, hr, hnobody]

/-- The channel that goes on is in GAP, and with T at 0 its next start comes at once (R75). -/
theorem endAudio_attended (c : Channel) (r : CycleRecord) (w : Work) (eng : Engine) (e : Entry)
    (hr : w.station.table.holding.get c = .cycle r) (hsomebody : r.deserted = false)
    (heng : engineAt w.station r.engine = some eng) (he : findEntry w.station r.announcement = some e) :
    endAudio c w = if r.t = 0 then startCycle c (w.openGap c r (eng.audioEnd e.area))
      else w.openGap c r (eng.audioEnd e.area) := by
  have hstart := startDue_openGap c r (eng.audioEnd e.area) w
  simp only [Work.openGap] at hstart ⊢
  simp [endAudio, hr, hsomebody, engineAudioEnd_bound r w.station eng e heng he, hstart]

theorem exec_audioEnd (s : State) (c : Channel) (r : CycleRecord) (e : Entry) (hr : s.table.holding.get c = .cycle r)
    (hsub : r.substate = .playing) (he : findEntry s.toStation r.announcement = some e) (ht : r.t = e.gap) :
    exec (.audioEnd c.val) s = .next ⟨(endAudio c (Work.begin s.toStation)).finish, s.pending⟩ := by
  have hdue : audioEndDue c s.toStation = true := by simp [audioEndDue, hr, hsub, ht, gapOf_of_entry _ r e he]
  simp [exec, execAudioEnd, hdue]

/-- What the audio end of a channel that goes on makes of the table: a channel in GAP, or the next cycle begun; the
engine is told of it either way (R75 to R77). -/
theorem finish_endAudio_attended (c : Channel) (r : CycleRecord) (s : Station) (eng : Engine) (e : Entry)
    (hr : s.table.holding.get c = .cycle r) (hsomebody : r.deserted = false)
    (heng : engineAt s r.engine = some eng) (he : findEntry s r.announcement = some e) (ht : r.t = e.gap) :
    ∃ t, (endAudio c (Work.begin s)).finish =
        { s with table := t, engines := (setEngine r.engine (eng.audioEnd e.area) s).engines }
      ∧ (1 ≤ e.gap → t = { s.table with holding := s.table.holding.put c (.cycle { r with substate := .gap }) })
      ∧ (e.gap = 0 → t.holding.get c = .cycle (r.begin (eng.audioEnd e.area).area.length 0)
          ∧ (∀ d, d ≠ c → t.holding.get d = s.table.holding.get d)
          ∧ t = { s.table with holding := t.holding }) := by
  rw [endAudio_attended c r (Work.begin s) eng e hr hsomebody heng he]
  split
  next hnone =>
    rw [startCycle_openGap c r _ e (Work.begin s) hsomebody he, ht.symm.trans hnone]
    refine ⟨_, rfl, nofun, fun _ => ⟨setHolding_get_same c _ _, fun d hd => ?_, rfl⟩⟩
    exact (setHolding_get_ne c d _ _ (Ne.symm hd)).trans (setHolding_get_ne c d _ _ (Ne.symm hd))
  next hgap => exact ⟨_, rfl, fun _ => rfl, fun hnone => absurd (ht.trans hnone) hgap⟩

end Sys2Proof.Machine

namespace Sys2Proof.Proofs
open Sys2Proof Sys2Proof.Machine

/-- Settles O42, by the end check. -/
theorem startBoundaryStartsOrEnds : Obligations.StartBoundaryStartsOrEnds := by
  intro s c r hr ht hsub
  have hexec := exec_startBoundary s c r hr ht hsub
  refine ⟨fun hl hw => ?_, fun eng e hsomebody heng he => ?_⟩
  · rw [startCycle_deserted c r _ hr (deserted_of_nobody r hl hw)] at hexec
    obtain ⟨t, f, hends, hheld, hother⟩ := finish_endCycle c r s.toStation hr
    rw [hends] at hexec
    exact ⟨_, hexec, rfl, engineAt_freeEngineSlot r.engine s.toStation, hheld, hother, rfl, rfl⟩
  · rw [hexec, startCycle_attended c r (Work.begin s.toStation) eng e hr (deserted_of_somebody r hsomebody) heng he]
    rfl

/-- Settles O43, by the end check; what the engine makes of the audio end is the same with a gap and without. -/
theorem audioEndOpensTheGap : Obligations.AudioEndOpensTheGap := by
  intro s c r e hr hsub he ht
  have hexec := exec_audioEnd s c r e hr hsub he ht
  refine ⟨fun hl hw => ?_, fun eng hsomebody heng => ?_⟩
  · rw [endAudio_deserted c r _ hr (deserted_of_nobody r hl hw)] at hexec
    obtain ⟨t, f, hends, hheld, hother⟩ := finish_endCycle c r s.toStation hr
    rw [hends] at hexec
    exact ⟨_, hexec, rfl, hother, engineAt_freeEngineSlot r.engine s.toStation, hheld, rfl, rfl⟩
  · obtain ⟨t, hends, hgap, hnone⟩ :=
      finish_endAudio_attended c r s.toStation eng e hr (deserted_of_somebody r hsomebody) heng he ht
    rw [hends] at hexec
    exact ⟨_, _, hexec, rfl, hgap, hnone, engineAt_setEngine r.engine _ s.toStation, audioEnd_mark eng e.area,
      audioEnd_run eng e.area, audioEnd_wraps eng e.area, audioEnd_stands eng e.area,
      fun x hx => setEngine_other r.engine x _ s.toStation hx, rfl, rfl, rfl⟩

end Sys2Proof.Proofs
end

/-! The cadence search (R98, R99): the candidates passed over, the step entered, and the wait where none is true; and
what a boundary makes of a cadence (R100). -/
section
namespace Sys2Proof.Machine

/-! ### Candidates (R98, R99) -/

theorem condHolds_iff (c : Cond) (listeners grade pass : Nat) :
    condHolds c listeners grade pass = true ↔ condTrue c listeners grade pass := by
  cases c <;> simp [condHolds, condTrue]

theorem nextCandidate_eq (p : Plan) (start : Nat × Nat) :
    nextCandidate p start = (successor p start.1, passAfter p start.1 start.2) := by
  unfold nextCandidate successor passAfter
  split <;> rfl

/-- A loop point within the plan keeps every candidate within it (R99). -/
theorem nextCandidate_lt (p : Plan) (hloop : p.loop < p.steps.length) (start : Nat × Nat) :
    (nextCandidate p start).1 < p.steps.length := by
  unfold nextCandidate
  split
  · assumption
  · exact hloop

/-- The candidates of a search that begins one later. -/
theorem candidateAt_next (p : Plan) (start : Nat × Nat) (k : Nat) :
    candidateAt p (nextCandidate p start) k = candidateAt p start (k + 1) := by
  induction k with
  | zero => rfl
  | succ k ih => exact congrArg (nextCandidate p) ih

theorem candidateTrue_next (p : Plan) (grade listeners : Nat) (start : Nat × Nat) (k : Nat) :
    candidateTrue p grade listeners (nextCandidate p start) k ↔ candidateTrue p grade listeners start (k + 1) := by
  simp only [candidateTrue, candidateAt_next]

/-! ### The step entered (R96, R99) -/

theorem enterStep_eq (p : Plan) (i : Nat) (st : CadenceStep) (r : ToneRecord) :
    enterStep p i st r = withIncrements p st.sound { r with
      mode := if st.duration.isSome then .timed else .held, step := i, remaining := st.duration.getD 0 } := by
  unfold enterStep
  split
  next d hd => simp [hd]
  next hd => simp [hd]

theorem withIncrements_changes (p : Plan) (sound : Option Nat) (r : ToneRecord) :
    ∃ a b, withIncrements p sound r = { r with inc1 := a, inc2 := b } := by
  unfold withIncrements
  split
  · exact ⟨r.inc1, r.inc2, rfl⟩
  · split
    · exact ⟨r.inc1, r.inc2, rfl⟩
    · exact ⟨_, _, rfl⟩

theorem withIncrements_set (p : Plan) (i : Nat) (set : ToneSet) (r : ToneRecord) (h : p.sets[i]? = some set) :
    withIncrements p (some i) r =
      { r with inc1 := incrementOf set.c1 r.inc1, inc2 := incrementOf set.c2 r.inc2 } := by
  simp only [withIncrements, h]

/-- The increment of a component present, and of one absent (R96). -/
theorem incrementOf_cases (c : Option Component) (old : BitVec 16) :
    (∀ x, c = some x → incrementOf c old = x.increment) ∧ (c = none → incrementOf c old = old) := by
  constructor
  · rintro x rfl
    rfl
  · rintro rfl
    rfl

/-! ### Where a record stands in its cadence -/

/-- `q` is `r` but for where it stands in its cadence and the increments it runs with. -/
def ToneRecord.Resteps (r q : ToneRecord) : Prop :=
  ∃ m i k n a b, q = { r with mode := m, step := i, remaining := k, pass := n, inc1 := a, inc2 := b }

theorem ToneRecord.Resteps.refl (r : ToneRecord) : r.Resteps r :=
  ⟨r.mode, r.step, r.remaining, r.pass, r.inc1, r.inc2, rfl⟩

theorem ToneRecord.Resteps.trans {r q x : ToneRecord} (h : r.Resteps q) (h' : q.Resteps x) : r.Resteps x := by
  obtain ⟨m, i, k, n, a, b, rfl⟩ := h
  obtain ⟨m', i', k', n', a', b', rfl⟩ := h'
  exact ⟨m', i', k', n', a', b', rfl⟩

theorem ToneRecord.Resteps.fields {r q : ToneRecord} (h : r.Resteps q) :
    q.plan = r.plan ∧ q.standing = r.standing ∧ q.listeners = r.listeners ∧ q.quiet = r.quiet ∧ q.phase1 = r.phase1
    ∧ q.phase2 = r.phase2 ∧ q.generator = r.generator := by
  obtain ⟨m, i, k, n, a, b, rfl⟩ := h
  exact ⟨rfl, rfl, rfl, rfl, rfl, rfl, rfl⟩

theorem enterStep_resteps (p : Plan) (i : Nat) (st : CadenceStep) (r : ToneRecord) :
    r.Resteps (enterStep p i st r) := by
  obtain ⟨a, b, h⟩ := withIncrements_changes p st.sound { r with
    mode := if st.duration.isSome then .timed else .held, step := i, remaining := st.duration.getD 0 }
  exact ⟨_, _, _, r.pass, a, b, (enterStep_eq p i st r).trans h⟩

/-- The place and the length of the step entered (R99). -/
theorem enterStep_place (p : Plan) (i : Nat) (st : CadenceStep) (r : ToneRecord) :
    (enterStep p i st r).step = i ∧ (enterStep p i st r).pass = r.pass
    ∧ (∀ d, st.duration = some d → (enterStep p i st r).mode = .timed ∧ (enterStep p i st r).remaining = d)
    ∧ (st.duration = none → (enterStep p i st r).mode = .held) := by
  obtain ⟨a, b, h⟩ := withIncrements_changes p st.sound { r with
    mode := if st.duration.isSome then .timed else .held, step := i, remaining := st.duration.getD 0 }
  rw [enterStep_eq, h]
  exact ⟨rfl, rfl, fun d hd => by simp [hd], fun hd => by simp [hd]⟩

theorem enterStep_mode (p : Plan) (i : Nat) (st : CadenceStep) (r : ToneRecord) :
    (enterStep p i st r).mode ≠ .starting := by
  obtain ⟨-, -, htimed, hheld⟩ := enterStep_place p i st r
  cases hd : st.duration with
  | none => simp [hheld hd]
  | some d => simp [(htimed d hd).1]

/-- Silence keeps both increments (R96). -/
theorem enterStep_silent (p : Plan) (i : Nat) (st : CadenceStep) (r : ToneRecord) (h : st.sound = none) :
    (enterStep p i st r).inc1 = r.inc1 ∧ (enterStep p i st r).inc2 = r.inc2 := by
  rw [enterStep_eq, h]
  exact ⟨rfl, rfl⟩

/-- A set gives the increments of the components it has, and keeps those of the others (R96). -/
theorem enterStep_sounds (p : Plan) (i n : Nat) (st : CadenceStep) (set : ToneSet) (r : ToneRecord)
    (h : st.sound = some n) (hset : p.sets[n]? = some set) :
    (∀ x, set.c1 = some x → (enterStep p i st r).inc1 = x.increment)
    ∧ (set.c1 = none → (enterStep p i st r).inc1 = r.inc1)
    ∧ (∀ x, set.c2 = some x → (enterStep p i st r).inc2 = x.increment)
    ∧ (set.c2 = none → (enterStep p i st r).inc2 = r.inc2) := by
  rw [enterStep_eq, h, withIncrements_set p n set _ hset]
  obtain ⟨hpresent1, habsent1⟩ := incrementOf_cases set.c1 r.inc1
  obtain ⟨hpresent2, habsent2⟩ := incrementOf_cases set.c2 r.inc2
  exact ⟨hpresent1, habsent1, hpresent2, habsent2⟩

/-! ### The search (R99) -/

theorem search_resteps (p : Plan) (grade left i : Nat) (r : ToneRecord) : r.Resteps (search p grade left i r) := by
  have hwaits : r.Resteps { r with mode := .waiting, step := i, remaining := 0 } :=
    ⟨_, _, _, r.pass, r.inc1, r.inc2, rfl⟩
  induction left generalizing i r with
  | zero => exact hwaits
  | succ left ih =>
    unfold search
    split
    · exact hwaits
    · split
      · exact enterStep_resteps p i _ r
      · refine ToneRecord.Resteps.trans ?_ (ih (successor p i) _ ⟨_, _, _, _, _, _, rfl⟩)
        exact ⟨r.mode, r.step, r.remaining, _, r.inc1, r.inc2, rfl⟩

/-- A search ends in a step or in the wait, and never in the start of a cadence. -/
theorem search_mode (p : Plan) (grade left i : Nat) (r : ToneRecord) : (search p grade left i r).mode ≠ .starting := by
  induction left generalizing i r with
  | zero => exact CadenceMode.noConfusion
  | succ left ih =>
    unfold search
    split
    · exact CadenceMode.noConfusion
    · split
      · exact enterStep_mode p i _ r
      · exact ih _ _

section
variable {p : Plan} {grade : Nat} {r : ToneRecord}

/-- A candidate whose condition is true is entered, whatever number of others could follow. -/
theorem search_true {left : Nat} {start : Nat × Nat} {st : CadenceStep}
    (htrue : candidateTrue p grade r.listeners start 0) (hst : p.steps[start.1]? = some st) :
    search p grade (left + 1) start.1 { r with pass := start.2 } = enterStep p start.1 st { r with pass := start.2 } := by
  obtain ⟨st', hst', hcond⟩ := htrue
  obtain rfl : st' = st := Option.some.inj (hst'.symm.trans hst)
  simp only [search, hst]
  exact if_pos ((condHolds_iff ..).mpr hcond)

/-- A candidate whose condition is false is passed over. -/
theorem search_false {left : Nat} {start : Nat × Nat} (hstart : start.1 < p.steps.length)
    (hfalse : ¬ candidateTrue p grade r.listeners start 0) :
    search p grade (left + 1) start.1 { r with pass := start.2 } =
      search p grade left (nextCandidate p start).1 { r with pass := (nextCandidate p start).2 } := by
  have hst := List.getElem?_eq_getElem hstart
  simp only [search, hst, nextCandidate_eq]
  exact if_neg fun h => hfalse ⟨_, hst, (condHolds_iff ..).mp h⟩

variable (hloop : p.loop < p.steps.length)
include hloop

/-- The search enters the first candidate whose condition is true. -/
theorem search_enters {left k : Nat} {start : Nat × Nat} {st : CadenceStep} (hstart : start.1 < p.steps.length)
    (hk : k < left) (htrue : candidateTrue p grade r.listeners start k)
    (hfirst : ∀ j, j < k → ¬ candidateTrue p grade r.listeners start j)
    (hst : p.steps[(candidateAt p start k).1]? = some st) :
    search p grade left start.1 { r with pass := start.2 } =
      enterStep p (candidateAt p start k).1 st { r with pass := (candidateAt p start k).2 } := by
  obtain ⟨left, rfl⟩ := Nat.exists_eq_succ_of_ne_zero (Nat.ne_zero_of_lt hk)
  induction k generalizing left start with
  | zero => exact search_true htrue hst
  | succ k ih =>
    obtain ⟨left, rfl⟩ := Nat.exists_eq_succ_of_ne_zero (Nat.ne_zero_of_lt (Nat.lt_of_succ_lt_succ hk))
    rw [search_false hstart (hfirst 0 (Nat.succ_pos k))]
    simp only [← candidateTrue_next, ← candidateAt_next] at htrue hst ⊢
    refine ih (nextCandidate_lt p hloop start) htrue (fun j hj => ?_) hst left (Nat.lt_of_succ_lt_succ hk)
    exact (candidateTrue_next ..).not.mpr (hfirst (j + 1) (Nat.succ_lt_succ hj))

/-- A search that finds no true condition waits with the next candidate. -/
theorem search_waits {left : Nat} {start : Nat × Nat} (hstart : start.1 < p.steps.length)
    (hfalse : ∀ k, k < left → ¬ candidateTrue p grade r.listeners start k) :
    search p grade left start.1 { r with pass := start.2 } = { r with
      mode := .waiting, step := (candidateAt p start left).1, remaining := 0, pass := (candidateAt p start left).2 } := by
  induction left generalizing start with
  | zero => rfl
  | succ left ih =>
    rw [search_false hstart (hfalse 0 (Nat.succ_pos left)), ← candidateAt_next]
    refine ih (nextCandidate_lt p hloop start) fun k hk => ?_
    exact (candidateTrue_next ..).not.mpr (hfalse (k + 1) (Nat.succ_lt_succ hk))

/-- A search over the plan's step count is the search of R99. -/
theorem searchFrom_searched {start : Nat × Nat} (hstart : start.1 < p.steps.length) :
    searched p grade start r (searchFrom p grade start.1 { r with pass := start.2 }) := by
  obtain ⟨hplan, hstanding, hlisteners, hquiet, hphase1, hphase2, hgenerator⟩ :=
    (search_resteps p grade p.steps.length start.1 { r with pass := start.2 }).fields
  refine ⟨hplan, hstanding, hlisteners, hquiet, hphase1, hphase2, hgenerator, fun k st hk htrue hfirst hst => ?_,
    fun hnone => ?_⟩
  · rw [searchFrom, search_enters hloop hstart hk htrue hfirst hst]
    obtain ⟨hstep, hpass, htimed, hheld⟩ := enterStep_place p (candidateAt p start k).1 st
      { r with pass := (candidateAt p start k).2 }
    exact ⟨hstep, hpass, htimed, hheld, enterStep_silent _ _ _ _, fun n set => enterStep_sounds _ _ n _ set _⟩
  · rw [searchFrom, search_waits hloop hstart hnone]
    exact ⟨rfl, rfl, rfl, rfl, rfl⟩

/-- A search from the step after the current one (R99, R100). -/
theorem searchOn_searched : searched p grade (nextCandidate p (r.step, r.pass)) r (searchOn p grade r) := by
  have h := searchFrom_searched (grade := grade) (r := r) hloop (nextCandidate_lt p hloop (r.step, r.pass))
  rwa [nextCandidate_eq] at h ⊢

/-- The cadence work of a boundary is the step of R100. -/
theorem cadenceWork_steps : cadenceStep p grade r (cadenceWork p grade r) := by
  refine ⟨fun hmode => ?_, fun hmode hleft => ?_, fun hmode hlast => ?_, fun st hmode hst hcond => ?_,
    fun st hmode hst hcond => ?_, fun hmode hstep => ?_⟩
  · simp only [cadenceWork, hmode]
  · simp only [cadenceWork, hmode]
    exact if_neg (by omega)
  · have hsearch : cadenceWork p grade r = searchOn p grade { r with remaining := r.remaining - 1 } := by
      simp only [cadenceWork, hmode]
      exact if_pos (by omega)
    rw [hsearch]
    exact searchOn_searched hloop
  · simp only [cadenceWork, hmode, retestHeld, hst]
    exact if_pos ((condHolds_iff ..).mpr hcond)
  · have hsearch : cadenceWork p grade r = searchOn p grade r := by
      simp only [cadenceWork, hmode, retestHeld, hst]
      exact if_neg fun h => hcond ((condHolds_iff ..).mp h)
    rw [hsearch]
    exact searchOn_searched hloop
  · simp only [cadenceWork, hmode]
    exact searchFrom_searched (start := (r.step, r.pass)) hloop hstep

end

theorem searchOn_resteps (p : Plan) (grade : Nat) (r : ToneRecord) : r.Resteps (searchOn p grade r) :=
  ToneRecord.Resteps.trans ⟨r.mode, r.step, r.remaining, _, r.inc1, r.inc2, rfl⟩ (search_resteps p grade _ _ _)

theorem cadenceWork_resteps (p : Plan) (grade : Nat) (r : ToneRecord) : r.Resteps (cadenceWork p grade r) := by
  have hcounted : r.Resteps { r with remaining := r.remaining - 1 } :=
    ⟨r.mode, r.step, _, r.pass, r.inc1, r.inc2, rfl⟩
  unfold cadenceWork retestHeld
  split
  next => exact .refl r
  next =>
    dsimp only
    split
    · exact hcounted.trans (searchOn_resteps p grade _)
    · exact hcounted
  next =>
    split
    · exact .refl r
    · split
      · exact .refl r
      · exact searchOn_resteps p grade r
  next => exact search_resteps p grade _ _ r

/-- A generator that has started does not start again at a boundary (R100). -/
theorem cadenceWork_mode (p : Plan) (grade : Nat) (r : ToneRecord) (h : r.mode ≠ .starting) :
    (cadenceWork p grade r).mode ≠ .starting := by
  unfold cadenceWork retestHeld
  split
  next hmode => exact absurd hmode h
  next =>
    dsimp only
    split
    · exact search_mode p grade _ _ _
    · exact h
  next =>
    split
    · exact h
    · split
      · exact h
      · exact search_mode p grade _ _ _
  next => exact search_mode p grade _ _ r

/-! ### The quiet timer, which no cadence reads -/

theorem searched_withQuiet {p : Plan} {grade n : Nat} {start : Nat × Nat} {r q : ToneRecord}
    (h : searched p grade start { r with quiet := n } q) : searched p grade start r { q with quiet := r.quiet } := by
  obtain ⟨hplan, hstanding, hlisteners, -, hrest⟩ := h
  exact ⟨hplan, hstanding, hlisteners, rfl, hrest⟩

theorem cadenceStep_withQuiet {p : Plan} {grade n : Nat} {r q : ToneRecord}
    (h : cadenceStep p grade { r with quiet := n } q) : cadenceStep p grade r { q with quiet := r.quiet } := by
  obtain ⟨hstarting, hcounts, hruns, hholds, hleaves, hwaits⟩ := h
  refine ⟨fun hmode => ?_, fun hmode hleft => ?_, fun hmode hlast => searched_withQuiet (hruns hmode hlast),
    fun st hmode hst hcond => ?_, fun st hmode hst hcond => searched_withQuiet (hleaves st hmode hst hcond),
    fun hmode hstep => searched_withQuiet (hwaits hmode hstep)⟩
  · rw [hstarting hmode]
  · rw [hcounts hmode hleft]
  · rw [hholds st hmode hst hcond]

end Sys2Proof.Machine
end

/-! A tone that runs on through a frame pulse: the work of the other channels, the boundary's own on the tone, and the
frame's (R2, R26, R95 to R104). -/
section
namespace Sys2Proof.Machine

/-! ### The work of one channel (R52, R74) -/

/-- Work that touches of the holdings that of channel `d` alone, leaves the pool, the tables and the monitor, and gives
back no other channel. -/
structure Work.TouchesOnly (d : Channel) (w v : Work) : Prop where
  holding : ∀ x, x ≠ d → v.station.table.holding.get x = w.station.table.holding.get x
  pool : v.station.table.pool = w.station.table.pool
  tables : v.station.tables = w.station.tables
  monitor : v.station.monitor = w.station.monitor
  returned : ∀ x ∈ v.returned, x ∈ w.returned ∨ x = d

section
variable {d : Channel} {u v w : Work}

theorem Work.TouchesOnly.refl (d : Channel) (w : Work) : w.TouchesOnly d w :=
  ⟨fun _ _ => rfl, rfl, rfl, rfl, fun _ => .inl⟩

theorem Work.TouchesOnly.trans (h : Work.TouchesOnly d u v) (h' : Work.TouchesOnly d v w) : Work.TouchesOnly d u w where
  holding x hx := (h'.holding x hx).trans (h.holding x hx)
  pool := h'.pool.trans h.pool
  tables := h'.tables.trans h.tables
  monitor := h'.monitor.trans h.monitor
  returned x hx := (h'.returned x hx).elim (h.returned x) .inr

/-- A record replaced, with the engines, the formed codes and the notices as they may be. -/
theorem Work.TouchesOnly.put (h : Holding) (e : Tbl 16 EngineSlot) (f : Tbl 48 (Option Code)) (ps : List Notice)
    (w : Work) : w.TouchesOnly d
      { w with station := { setHolding d h { w.station with engines := e } with formed := f }, posts := ps } :=
  ⟨fun _ hx => setHolding_get_ne d _ h _ hx.symm, rfl, rfl, rfl, fun _ => .inl⟩

theorem Work.TouchesOnly.endService (e : Tbl 16 EngineSlot) (w : Work) :
    w.TouchesOnly d (Work.endService d { w with station := { w.station with engines := e } }) := by
  refine ⟨fun x hx => hold_other _ d x .none hx, rfl, rfl, rfl, fun x hx => ?_⟩
  simpa [Work.endService] using hx

end

/-! ### Tone work -/

theorem stepToneQuiet_touchesOnly (d : Channel) (w : Work) :
    w.TouchesOnly d { w with station := stepToneQuiet d w.station } := by
  unfold stepToneQuiet
  split
  · exact .put _ _ _ _ w
  · exact .refl d w

theorem toneCadence_touchesOnly (d : Channel) (w : Work) :
    w.TouchesOnly d { w with station := toneCadence d w.station } := by
  unfold toneCadence
  split
  · exact .put _ _ _ _ w
  · exact .refl d w

theorem expireTone_touchesOnly (d : Channel) (w : Work) : w.TouchesOnly d (expireTone d w) := by
  unfold expireTone
  split
  · dsimp only
    split
    · exact .put _ _ _ _ w
    · exact (Work.TouchesOnly.put _ _ _ _ w).trans (.endService _ _)
  · exact .refl d w

theorem toneBoundary_touchesOnly (d : Channel) (w : Work) : w.TouchesOnly d (toneBoundary d w) := by
  refine ((stepToneQuiet_touchesOnly d w).trans ?_).trans (toneCadence_touchesOnly d _)
  split
  · exact expireTone_touchesOnly d _
  · exact .refl d _

theorem planOf_eq (s : Station) (r : ToneRecord) (p : Plan) (h : findPlan s r.plan = some p) : planOf s r = p := by
  simp only [planOf, h]

/-! ### Cycle work -/

theorem stepCycleQuiet_touchesOnly (d : Channel) (w : Work) :
    w.TouchesOnly d { w with station := stepCycleQuiet d w.station } := by
  unfold stepCycleQuiet
  split
  · exact .put _ _ _ _ w
  · exact .refl d w

theorem stepCycleT_touchesOnly (d : Channel) (w : Work) :
    w.TouchesOnly d { w with station := stepCycleT d w.station } := by
  unfold stepCycleT
  split
  · exact .put _ _ _ _ w
  · exact .refl d w

theorem nextSuperframe_touchesOnly (d : Channel) (w : Work) :
    w.TouchesOnly d { w with station := nextSuperframe d w.station } := by
  unfold nextSuperframe
  split
  · split
    · exact .put _ _ _ _ w
    · exact .refl d w
  · exact .refl d w

theorem expireCycle_touchesOnly (d : Channel) (w : Work) : w.TouchesOnly d (expireCycle d w) := by
  unfold expireCycle
  split
  · exact .put _ _ _ _ w
  · exact .refl d w

theorem endCycle_touchesOnly (d : Channel) (w : Work) : w.TouchesOnly d (endCycle d w) := by
  unfold endCycle
  split
  · exact .endService _ w
  · exact .refl d w

theorem startCycle_touchesOnly (d : Channel) (w : Work) : w.TouchesOnly d (startCycle d w) := by
  unfold startCycle
  split
  · split
    · exact endCycle_touchesOnly d w
    · exact .put _ _ _ _ w
  · exact .refl d w

theorem endAudio_touchesOnly (d : Channel) (w : Work) : w.TouchesOnly d (endAudio d w) := by
  unfold endAudio
  split
  next r hr =>
    split
    · exact endCycle_touchesOnly d w
    · obtain ⟨e, he⟩ := engineAudioEnd_changes r w.station
      rw [he]
      have hgap := Work.TouchesOnly.put (d := d) (.cycle { r with substate := .gap }) e w.station.formed w.posts w
      dsimp only
      split
      · exact hgap.trans (startCycle_touchesOnly d _)
      · exact hgap
  next => exact .refl d w

theorem cycleBoundary_touchesOnly (d : Channel) (w : Work) : w.TouchesOnly d (cycleBoundary d w) := by
  have hends : ∀ v : Work, v.TouchesOnly d (if audioEndDue d v.station then endAudio d v
      else if startDue d v.station then startCycle d v
      else { v with station := nextSuperframe d v.station }) := by
    intro v
    split
    · exact endAudio_touchesOnly d v
    · split
      · exact startCycle_touchesOnly d v
      · exact nextSuperframe_touchesOnly d v
  refine (((stepCycleQuiet_touchesOnly d w).trans ?_).trans (stepCycleT_touchesOnly d _)).trans (hends _)
  split
  · exact expireCycle_touchesOnly d _
  · exact .refl d _

theorem whenDue_countUnderrun (due : Bool) (x : Fin 16) (s : Station) :
    ∃ e, whenDue due (countUnderrun x) s = { s with engines := e } := by
  cases due
  · exact ⟨s.engines, rfl⟩
  · exact ⟨_, rfl⟩

theorem playFrame_touchesOnly (d : Channel) (w : Work) : w.TouchesOnly d (playFrame d w) := by
  unfold playFrame
  dsimp only
  split
  next r hr =>
    split
    · split
      · exact .refl d w
      next eng heng =>
        split
        · exact .put _ _ _ _ w
        · obtain ⟨e, he⟩ := whenDue_countUnderrun
            (!(eng.moveMark ⟨eng.mark.cycle, framePosition r.position w.station.port.frameCount⟩).run) r.engine w.station
          rw [he]
          exact .put _ _ _ _ w
    · exact .refl d w
  next => exact .refl d w

/-- A channel that a tone runs on has no cycle work (R74). -/
theorem cycleBoundary_tone (c : Channel) (r : ToneRecord) (w : Work) (h : w.station.table.holding.get c = .tone r) :
    cycleBoundary c w = w := by
  simp [cycleBoundary, stepCycleQuiet, cycleQuietDue, stepCycleT, audioEndDue, startDue, nextSuperframe, h]

theorem playFrame_tone (c : Channel) (r : ToneRecord) (w : Work) (h : w.station.table.holding.get c = .tone r) :
    playFrame c w = w := by
  simp [playFrame, h]

/-! ### A tone that runs on a channel -/

/-- A tone of record `r` runs on channel `c`, which has no place in the pool. -/
structure Station.Runs (s : Station) (c : Channel) (r : ToneRecord) : Prop where
  holding : s.table.holding.get c = .tone r
  pool : c ∉ s.table.pool

/-- Boundary work begun in station `s`: a tone of record `r` runs on channel `c`, which is not to be given back. -/
structure Work.Runs (w : Work) (s : Station) (c : Channel) (r : ToneRecord) : Prop where
  station : w.station.Runs c r
  returned : c ∉ w.returned
  tables : w.station.tables = s.tables
  monitor : w.station.monitor = s.monitor

/-- Work of every channel: that of `c` takes `P` to `Q`, and that of the others keeps either. -/
theorem eachChannel_turns {α : Type} (P Q : α → Prop) (f : Channel → α → α) (c : Channel)
    (hown : ∀ a, P a → Q (f c a)) (hbefore : ∀ d a, d ≠ c → P a → P (f d a))
    (hafter : ∀ d a, d ≠ c → Q a → Q (f d a)) (a : α) (ha : P a) : Q (eachChannel f a) := by
  obtain ⟨before, after, hsplit⟩ := List.append_of_mem (List.mem_finRange c)
  have hnodup : (before ++ c :: after).Nodup := hsplit ▸ List.nodup_finRange 48
  obtain ⟨-, hrest, hapart⟩ := List.nodup_append.mp hnodup
  rw [eachChannel, numbers, hsplit, List.foldl_append, List.foldl_cons]
  refine List.foldlRecOn (motive := Q) after _ (hown _ ?_) fun x hx d hd => ?_
  · exact List.foldlRecOn (motive := P) before _ ha fun x hx d hd => hbefore d x (hapart d hd c List.mem_cons_self) hx
  · exact hafter d x (fun h => (List.nodup_cons.mp hrest).1 (h ▸ hd)) hx

section
variable {c d : Channel} {r : ToneRecord} {s : Station}

/-- Only the table matters, and of it the holdings and the pool. -/
theorem Station.Runs.same {t : Station} (h : s.Runs c r) (hholding : t.table.holding = s.table.holding)
    (hpool : t.table.pool = s.table.pool) : t.Runs c r :=
  ⟨by rw [hholding]; exact h.holding, by rw [hpool]; exact h.pool⟩

theorem Station.Runs.touched {w v : Work} (h : w.station.Runs c r) (ht : w.TouchesOnly d v) (hd : d ≠ c) :
    v.station.Runs c r :=
  ⟨(ht.holding c hd.symm).trans h.holding, by rw [ht.pool]; exact h.pool⟩

theorem Work.Runs.touched {w v : Work} (h : w.Runs s c r) (ht : w.TouchesOnly d v) (hd : d ≠ c) : v.Runs s c r where
  station := h.station.touched ht hd
  returned hc := (ht.returned c hc).elim h.returned hd.symm
  tables := ht.tables.trans h.tables
  monitor := ht.monitor.trans h.monitor

theorem Station.Runs.draw (h : s.Runs c r) (n : Nat) : ({ s with draw := n } : Station).Runs c r := h.same rfl rfl

/-! ### The boundary (R2, R100, R102) -/

/-- The boundary's work on a tone whose quiet timer does not run out: the timer is stepped, then the cadence (R100). -/
theorem toneBoundary_runs {p : Plan} {w : Work} (h : w.Runs s c r) (hplan : findPlan s r.plan = some p)
    (hquiet : 2 ≤ r.quiet) :
    (toneBoundary c w).Runs s c (cadenceWork p s.monitor.grade { r with quiet := r.quiet - 1 }) := by
  have hstepped : stepToneQuiet c w.station = setHolding c (.tone { r with quiet := r.quiet - 1 }) w.station := by
    simp only [stepToneQuiet, h.station.holding]
  have hdue : toneQuietDue c (setHolding c (.tone { r with quiet := r.quiet - 1 }) w.station) = false := by
    simp only [toneQuietDue, setHolding_get_same, beq_eq_false_iff_ne]
    omega
  have hplanOf : planOf (setHolding c (.tone { r with quiet := r.quiet - 1 }) w.station)
      { r with quiet := r.quiet - 1 } = p := by
    have hfound : findPlan (setHolding c (.tone { r with quiet := r.quiet - 1 }) w.station) r.plan = some p := by
      rw [← hplan, findPlan, setHolding_tables, h.tables, findPlan]
    exact planOf_eq _ _ p hfound
  have hruns : (toneBoundary c w).station = setHolding c
      (.tone (cadenceWork p s.monitor.grade { r with quiet := r.quiet - 1 }))
      (setHolding c (.tone { r with quiet := r.quiet - 1 }) w.station) := by
    simp [toneBoundary, hstepped, hdue, toneCadence, hplanOf, h.monitor]
  have hreturned : (toneBoundary c w).returned = w.returned := by simp [toneBoundary, hstepped, hdue]
  refine ⟨?_, by rw [hreturned]; exact h.returned, ?_, ?_⟩ <;> rw [hruns]
  · exact ⟨setHolding_get_same c _ _, h.station.pool⟩
  · exact h.tables
  · exact h.monitor

/-- Of the tones' boundary work, that of its own channel alone touches a tone. -/
theorem toneChannels_runs {p : Plan} {w : Work} (h : w.Runs s c r) (hplan : findPlan s r.plan = some p)
    (hquiet : 2 ≤ r.quiet) :
    (eachChannel toneBoundary w).Runs s c (cadenceWork p s.monitor.grade { r with quiet := r.quiet - 1 }) :=
  eachChannel_turns (fun w => w.Runs s c r)
    (fun w => w.Runs s c (cadenceWork p s.monitor.grade { r with quiet := r.quiet - 1 })) toneBoundary c
    (fun _ hw => toneBoundary_runs hw hplan hquiet) (fun d w hd hw => hw.touched (toneBoundary_touchesOnly d w) hd)
    (fun d w hd hw => hw.touched (toneBoundary_touchesOnly d w) hd) w h

theorem cycleChannels_runs {w : Work} (h : w.Runs s c r) : (eachChannel cycleBoundary w).Runs s c r := by
  refine eachChannel_keeps (fun w => w.Runs s c r) cycleBoundary (fun d w hw => ?_) w h
  by_cases hd : d = c
  · subst hd
    rwa [cycleBoundary_tone d r w hw.station.holding]
  · exact hw.touched (cycleBoundary_touchesOnly d w) hd

theorem startSearch_table (s : Station) : (startSearch s).table = s.table := by
  unfold startSearch
  split <;> rfl

/-- The boundary work in LISTENING leaves the channels, and gives none back (R43). -/
theorem listeningBoundary_channels (w : Work) : (listeningBoundary w).station.table = w.station.table
    ∧ (listeningBoundary w).returned = w.returned := by
  unfold listeningBoundary
  dsimp only
  split
  · split <;> exact ⟨rfl, rfl⟩
  · exact ⟨rfl, rfl⟩

/-- The boundary before a frame makes the cadence's step of a tone, which it does not give back. -/
theorem boundaryWork_runs {p : Plan} (h : s.Runs c r) (hplan : findPlan s r.plan = some p) (hquiet : 2 ≤ r.quiet)
    (resumed : Bool) :
    (boundaryWork resumed s).station.Runs c (cadenceWork p s.monitor.grade { r with quiet := r.quiet - 1 })
    ∧ c ∉ (boundaryWork resumed s).returned := by
  have hchannels := cycleChannels_runs (toneChannels_runs (s := s)
    (w := Work.begin { s with table := s.table.atBoundary }) ⟨h.same rfl rfl, List.not_mem_nil, rfl, rfl⟩ hplan hquiet)
  unfold boundaryWork
  dsimp only
  generalize eachChannel cycleBoundary (eachChannel toneBoundary (Work.begin { s with table := s.table.atBoundary })) = w
    at hchannels ⊢
  obtain ⟨m, ps, hmonitor⟩ := monitorBoundary_changes w
  rw [hmonitor]
  have hruns : (startSearch { w.station with monitor := m }).Runs c _ :=
    hchannels.station.same (by rw [startSearch_table]) (by rw [startSearch_table])
  split
  · exact ⟨hruns, hchannels.returned⟩
  · obtain ⟨htable, hreturned⟩ := listeningBoundary_channels
      { w with station := startSearch { w.station with monitor := m }, posts := ps }
    exact ⟨hruns.same (by rw [htable]) (by rw [htable]), by rw [hreturned]; exact hchannels.returned⟩

/-! ### The channels returned (R26) -/

theorem mem_of_mem_shuffle {α : Type} (order : Nat → Nat → Nat) (draw : Nat) (a : α) (l : List α)
    (h : a ∈ shuffle order draw l) : a ∈ l := by
  induction l with
  | nil => exact h
  | cons b bs ih =>
    have hinsert : ∀ place (l : List α), a ∈ insertAt place b l → a = b ∨ a ∈ l := by
      intro place l ha
      cases l with
      | nil => exact .inl (List.mem_singleton.mp ha)
      | cons x xs => exact List.eq_or_mem_of_mem_insertIdx ha
    exact List.mem_cons.mpr ((hinsert _ _ h).imp_right ih)

theorem returnAll_runs (target : Nat) (ds : List Channel) (hc : c ∉ ds) (h : s.Runs c r) :
    (returnAll target ds s).Runs c r := by
  refine List.foldlRecOn (motive := fun s : Station => s.Runs c r) ds _ h fun t ht d hd => ?_
  have hne : c ≠ d := fun heq => hc (heq ▸ hd)
  refine ⟨(returnChannel_other target d c t hne.symm).trans ht.holding, fun hmem => ?_⟩
  rw [returnChannel_pool] at hmem
  split at hmem
  · exact (List.mem_append.mp hmem).elim ht.pool fun hd' => hne (List.mem_singleton.mp hd')
  · exact ht.pool hmem

/-! ### The frame's own work (R23, R24, R95, R96, R104) -/

theorem startFrame_runs (number : Nat) (h : s.Runs c r) : (startFrame number s).Runs c r :=
  h.same (by simp [startFrame, formTarget, openFrame]) (by simp [startFrame, formTarget, openFrame])

theorem toneFrame_touchesOnly (d : Channel) (s : Station) :
    (Work.begin s).TouchesOnly d (Work.begin (toneFrame d s)) := by
  unfold toneFrame
  split
  · exact .put _ _ _ _ (Work.begin s)
  · exact .refl d (Work.begin s)

/-- A generator that has started sounds, and its phases advance (R95, R96). -/
theorem toneFrame_runs (h : s.Runs c r) (hmode : r.mode ≠ .starting) : (toneFrame c s).Runs c
    { r with phase1 := r.phase1 + r.inc1, phase2 := r.phase2 + r.inc2 } := by
  have hentry : cadenceEntry (planOf s r) s.monitor.grade r = r := by
    unfold cadenceEntry
    split
    next hstarting => exact absurd hstarting hmode
    next => rfl
  have hphases : advancePhases r = { r with phase1 := r.phase1 + r.inc1, phase2 := r.phase2 + r.inc2 } := by
    unfold advancePhases
    split
    next hstarting => exact absurd hstarting hmode
    next => rfl
  simp only [toneFrame, h.holding, hentry, hphases]
  exact ⟨setHolding_get_same c _ s, h.pool⟩

/-- Of the tones' work in a frame, that of its own channel alone touches a tone. -/
theorem toneFrames_runs (h : s.Runs c r) (hmode : r.mode ≠ .starting) : (eachChannel toneFrame s).Runs c
    { r with phase1 := r.phase1 + r.inc1, phase2 := r.phase2 + r.inc2 } :=
  eachChannel_turns (fun s : Station => s.Runs c r) (fun s => s.Runs c _) toneFrame c
    (fun _ hs => toneFrame_runs hs hmode)
    (fun d s hd hs => Station.Runs.touched (w := Work.begin s) hs (toneFrame_touchesOnly d s) hd)
    (fun d s hd hs => Station.Runs.touched (w := Work.begin s) hs (toneFrame_touchesOnly d s) hd) s h

theorem ageBackOff_runs (h : s.Runs c r) : (ageBackOff s).Runs c r := h.same rfl rfl

/-- The newest pool channel is not the tone's (R24). -/
theorem releaseSurplus_runs (h : s.Runs c r) : (releaseSurplus s).Runs c r := by
  refine whenDue_keeps (fun t => t.Runs c r) _ _ s (fun _ _ => ?_) h
  obtain ⟨-, heq⟩ | ⟨rest, x, hpool, heq⟩ := releaseNewest_cases s
  · rwa [heq]
  · rw [heq]
    have hnot : c ∉ rest ++ [x] := hpool ▸ h.pool
    simp only [List.mem_append, List.mem_singleton, not_or] at hnot
    exact ⟨(hold_other s.table x c .none hnot.2).trans h.holding, hnot.1⟩

/-- A standing start marks a tone, or takes a pool channel, which is not the tone's (R104). -/
theorem coverPlan_runs (plan : Nat) (h : s.Runs c r) : ∃ mark, (coverPlan plan s).Runs c { r with standing := mark } := by
  unfold coverPlan
  split
  next d hfound =>
    by_cases hd : d = c
    · subst hd
      refine ⟨true, ?_⟩
      simp only [markStanding, h.holding]
      exact ⟨setHolding_get_same d _ s, h.pool⟩
    · refine ⟨r.standing, ?_⟩
      unfold markStanding
      split
      · exact ⟨(setHolding_get_ne d c _ s hd).trans h.holding, h.pool⟩
      · exact h
  next =>
    refine ⟨r.standing, ?_⟩
    split
    next g d rest hgen hpool =>
      split
      · have hd : c ≠ d := fun heq => h.pool (by rw [hpool, heq]; exact List.mem_cons_self)
        exact ⟨(hold_other s.table d c _ hd).trans h.holding, fun hmem => h.pool (List.mem_of_mem_erase hmem)⟩
      · exact h
    next => exact h

theorem standingStart_runs (h : s.Runs c r) : ∃ mark, (standingStart s).Runs c { r with standing := mark } := by
  unfold standingStart
  split
  · split
    · exact coverPlan_runs _ h
    · exact ⟨r.standing, h⟩
  · exact ⟨r.standing, h⟩

theorem releaseAndStart_runs (h : s.Runs c r) : ∃ mark, (releaseAndStart s).Runs c { r with standing := mark } := by
  rcases releaseAndStart_cases s with heq | heq <;> rw [heq]
  · exact standingStart_runs (releaseSurplus_runs h)
  · obtain ⟨mark, hmark⟩ := standingStart_runs h
    exact ⟨mark, releaseSurplus_runs hmark⟩

theorem claim_runs (h : s.Runs c r) : (claim s).Runs c r := by
  unfold claim
  split
  · exact h.same rfl rfl
  · exact h

theorem drainCheck_runs (h : s.Runs c r) : (drainCheck s).Runs c r := by
  unfold drainCheck
  split
  · exact h.same (by simp) (by simp)
  · exact h

/-- A frame advances the phases of a tone that has started, and may mark it standing. -/
theorem frameWork_runs (h : s.Runs c r) (hmode : r.mode ≠ .starting) : ∃ mark, (frameWork s).Runs c
    { r with phase1 := r.phase1 + r.inc1, phase2 := r.phase2 + r.inc2, standing := mark } := by
  obtain ⟨mark, hmark⟩ := releaseAndStart_runs (ageBackOff_runs (toneFrames_runs h hmode))
  exact ⟨mark, drainCheck_runs (claim_runs hmark)⟩

theorem postAll_runs (ps : List Notice) (h : s.Runs c r) : (postAll ps s).Runs c r :=
  h.same (congrArg ChannelTable.holding (postAll_table ps s)) (congrArg ChannelTable.pool (postAll_table ps s))

theorem playAll_runs (h : s.Runs c r) : (playAll s).Runs c r := by
  refine postAll_runs _ (eachChannel_keeps (fun w => w.station.Runs c r) playFrame (fun d w hw => ?_) (Work.begin s) h)
  by_cases hd : d = c
  · subst hd
    rwa [playFrame_tone d r w hw.holding]
  · exact hw.touched (playFrame_touchesOnly d w) hd

/-! ### The pulse (R1, R2, R4, R6) -/

/-- The frame that a pulse begins, after the work of the boundary before it. -/
def frameAfter (number : Nat) (ps : List Notice) (ds : List Channel) (s : Station) : Station :=
  playAll (frameWork (returnAll (startFrame number (postAll ps s)).table.target ds (startFrame number (postAll ps s))))

theorem acceptPulse_eq (long : Bool) (s : Station) (w : Work) (hboundary : (long || countNext s.port == 0) = true)
    (hw : w = boundaryWork (resumes s) (whenDue (resumes s) resume s)) :
    acceptPulse long s = { frameAfter 0 (shuffle Config.postOrder s.draw w.posts)
      (shuffle Config.returnOrder s.draw w.returned) w.station with draw := s.draw + 2 } := by
  unfold acceptPulse boundaryBefore
  dsimp only
  rw [hboundary, if_pos rfl, if_pos rfl, ← hw]
  rfl

theorem frameAfter_runs (number : Nat) (ps : List Notice) (ds : List Channel) (h : s.Runs c r) (hc : c ∉ ds)
    (hmode : r.mode ≠ .starting) : ∃ mark, (frameAfter number ps ds s).Runs c
      { r with phase1 := r.phase1 + r.inc1, phase2 := r.phase2 + r.inc2, standing := mark } := by
  obtain ⟨mark, hmark⟩ := frameWork_runs (returnAll_runs _ ds hc (startFrame_runs number (postAll_runs ps h))) hmode
  exact ⟨mark, playAll_runs hmark⟩

theorem resume_runs (h : s.Runs c r) : (whenDue (resumes s) resume s).Runs c r :=
  whenDue_keeps (fun t => t.Runs c r) _ _ s (fun _ h => h.same rfl rfl) h

/-- An accepted pulse with a boundary before its frame: the cadence's step, and the frame's phases. -/
theorem acceptPulse_runs {p : Plan} (h : s.Runs c r) (hplan : findPlan s r.plan = some p) (hquiet : 2 ≤ r.quiet)
    (hmode : r.mode ≠ .starting) (long : Bool) (hboundary : (long || countNext s.port == 0) = true) :
    ∃ q mark, q = cadenceWork p s.monitor.grade { r with quiet := r.quiet - 1 }
      ∧ (acceptPulse long s).Runs c
        { q with phase1 := q.phase1 + q.inc1, phase2 := q.phase2 + q.inc2, standing := mark } := by
  have hmonitor : (whenDue (resumes s) resume s).monitor = s.monitor := whenDue_leaves Station.monitor _ _ s rfl
  have htables : (whenDue (resumes s) resume s).tables = s.tables := whenDue_leaves Station.tables _ _ s rfl
  obtain ⟨hruns, hreturned⟩ := boundaryWork_runs (p := p) (resume_runs h)
    (by rw [← hplan, findPlan, htables, findPlan]) hquiet (resumes s)
  obtain ⟨mark, hmark⟩ := frameAfter_runs 0 _ _ hruns (fun hc => hreturned (mem_of_mem_shuffle _ _ _ _ hc))
    (cadenceWork_mode _ _ _ hmode)
  rw [acceptPulse_eq long s _ hboundary rfl, ← hmonitor]
  exact ⟨_, mark, rfl, hmark.draw _⟩

/-! ### A step counted whole at the pulse (R4) -/

theorem recorderPut_plans (s : Station) : (recorderPut s).tables.plans = s.tables.plans := by
  unfold recorderPut settleCommit
  split
  · rfl
  · dsimp only
    split <;> rfl

/-- A store command leaves the plans: a swap is of the directory (R168). -/
theorem performCmd_plans (cmd : StoreCmd) (s : Station) : (performCmd cmd s).tables.plans = s.tables.plans := by
  cases cmd with
  | fetch e close =>
    obtain ⟨es, st, h, -⟩ := doFetch_changes e close s
    exact congrArg (fun t => t.tables.plans) h
  | put who close =>
    cases who with
    | engine e => rfl
    | recorder =>
      simp only [performCmd, doPut]
      split
      · rfl
      · exact recorderPut_plans _
    | loader =>
      obtain ⟨o, l, h⟩ := loaderPut_changes (writeBurst (loaderAddress s) close s.loader.hand s)
      exact congrArg (fun t => t.tables.plans) h
  | _ => rfl

theorem performDecision_plans (d : Decision) (s : Station) : (performDecision d s).tables.plans = s.tables.plans := by
  unfold performDecision
  dsimp only
  split
  · rfl
  · exact performCmd_plans _ { s with store := { s.store with work := d.work } }

theorem wholeStep_plans (s : Station) : (wholeStep s).tables.plans = s.tables.plans := by
  obtain ⟨n, o, l, e, st, hwrapped⟩ := wrappedStep_changes s
  have hplans : (wrapEngines (prepareStep s)).tables.plans = s.tables.plans := by rw [hwrapped]
  rw [wholeStep_eq, closeStep_part (fun s => s.tables.plans) fun _ _ _ => rfl]
  by_cases hissued : s.store.issued = none
  · rw [stepCarried_free s hissued,
      decideAndCarry_part (fun s => s.tables.plans) (fun _ _ => rfl) (fun _ _ => rfl) _ _ rfl]
    exact (performDecision_plans _ _).trans hplans
  · rw [stepCarried_issued s hissued]
    exact hplans

theorem wholeStep_monitor (s : Station) : (wholeStep s).monitor = s.monitor := by
  rw [wholeStep_eq, closeStep_part Station.monitor fun _ _ _ => rfl]
  exact OutsideStep.stepCarried (part := Station.monitor) ⟨fun _ _ _ _ _ _ _ _ => rfl, fun _ _ => rfl⟩ s

theorem wholeStep_frameCount (s : Station) : (wholeStep s).port.frameCount = s.port.frameCount := by
  obtain ⟨n, h⟩ := wholeStep_port s
  rw [h]

/-- What a pulse finds of the table, the plans, the monitor and the frame count is what stands before it (R4). -/
theorem beforePulse_finds (inStep : Bool) (s : Station) : (beforePulse inStep s).table = s.table
    ∧ (beforePulse inStep s).tables.plans = s.tables.plans ∧ (beforePulse inStep s).monitor = s.monitor
    ∧ (beforePulse inStep s).port.frameCount = s.port.frameCount := by
  unfold beforePulse whenDue
  split
  · exact ⟨wholeStep_table s, wholeStep_plans s, wholeStep_monitor s, wholeStep_frameCount s⟩
  · exact ⟨rfl, rfl, rfl, rfl⟩

theorem glitch_of_accepted (s : State) (h : pulseAccepted s) : glitch s.port = false := by
  unfold glitch
  split
  · rfl
  next n hn => exact decide_eq_false (Nat.not_lt.mpr (h n hn))

theorem boundaryPulse_counts (long : Bool) (s : State) (p : Port) (h : boundaryPulse long s)
    (hcount : p.frameCount = s.port.frameCount) : (long || countNext p == 0) = true := by
  rcases h with hlong | hlast
  · simp [hlong]
  · simp [countNext, hcount, hlast]

/-- A pulse that begins a frame after a boundary: the cadence's step, and the frame's phases. -/
theorem framePulse_runs {p : Plan} (s : State) (h : s.toStation.Runs c r) (hplan : findPlan s.toStation r.plan = some p)
    (hquiet : 2 ≤ r.quiet) (hmode : r.mode ≠ .starting) (long inStep : Bool) (haccepted : pulseAccepted s)
    (hboundary : boundaryPulse long s) : ∃ q mark,
      q = cadenceWork p s.monitor.grade { r with quiet := r.quiet - 1 }
      ∧ (framePulse long inStep s.toStation).Runs c
        { q with phase1 := q.phase1 + q.inc1, phase2 := q.phase2 + q.inc2, standing := mark } := by
  obtain ⟨htable, hplans, hmonitor, hcount⟩ := beforePulse_finds inStep s.toStation
  have hpulse : framePulse long inStep s.toStation = acceptPulse long (beforePulse inStep s.toStation) := by
    rw [framePulse, glitch_of_accepted s haccepted]
    rfl
  rw [hpulse, ← hmonitor]
  refine acceptPulse_runs (h.same (by rw [htable]) (by rw [htable])) ?_ hquiet hmode long
    (boundaryPulse_counts long s _ hboundary hcount)
  rw [← hplan, findPlan, hplans, findPlan]

end

/-! ### The expiry of a step (R100) -/

theorem exec_stepExpiry (s : State) (c : Channel) (r : ToneRecord) (p : Plan) (hr : s.table.holding.get c = .tone r)
    (hplan : findPlan s.toStation r.plan = some p) (hmode : r.mode = .timed) (hdone : r.remaining = 0) :
    exec (.stepExpiry c.val) s = .next { s with
      table := { s.table with holding := s.table.holding.put c (.tone (searchOn p s.monitor.grade r)) } } := by
  have hdue : stepDue c s.toStation = true := by simp [stepDue, hr, hmode, hdone]
  have hexpires : expireStep c s.toStation = setHolding c (.tone (searchOn p s.monitor.grade r)) s.toStation := by
    simp only [expireStep, hr, planOf_eq s.toStation r p hplan]
  simp only [exec, execStepExpiry, State.runChannel_val, hdue, whenDue_true, hexpires]
  rfl

end Sys2Proof.Machine

namespace Sys2Proof.Proofs
open Sys2Proof Sys2Proof.Machine

/-- Settles O45: the search at the expiry, and the cadence's step carried through the boundary and its frame. -/
theorem stepExpiryEntersTheNextStep : Obligations.StepExpiryEntersTheNextStep := by
  intro s c r p hr hplan hloop
  refine ⟨fun hmode hdone => ⟨_, exec_stepExpiry s c r p hr hplan hmode hdone, searchOn_searched hloop⟩,
    fun long inStep haccepted hboundary hquiet hpool hmode => ?_⟩
  obtain ⟨q, mark, hq, hruns⟩ :=
    framePulse_runs s ⟨hr, hpool⟩ hplan hquiet hmode long inStep haccepted hboundary
  have hkept : q.quiet = r.quiet - 1 := by
    obtain ⟨-, -, -, hkept, -⟩ := (cadenceWork_resteps p s.monitor.grade { r with quiet := r.quiet - 1 }).fields
    rw [hq]
    exact hkept
  have hstep : cadenceStep p s.monitor.grade r { q with quiet := r.quiet } :=
    cadenceStep_withQuiet (hq ▸ cadenceWork_steps hloop)
  refine ⟨_, _, _, rfl, hstep, hruns.holding, ?_⟩
  rw [← hkept]

end Sys2Proof.Proofs
end

/-! Codes and linear values (R109, R110): a code is a sign, a chord and a step number, and both conversions are read
off the range of magnitudes these stand for. -/
section
namespace Sys2Proof.Machine

/-! ### The rows of R109's table -/

/-- The magnitude `m` lies in step `q` of chord `c` (R109). -/
structure InChordStep (c q m : Nat) : Prop where
  chord : c < 8
  step : q < 16
  low : chordBase c + q * chordStep c ≤ m
  high : m < chordBase c + (q + 1) * chordStep c

theorem chordStep_pos (c : Nat) : 0 < chordStep c := by
  unfold chordStep
  split
  · decide
  · exact Nat.two_pow_pos c

theorem chordOf_lt (m : Nat) : chordOf m < 8 := by
  unfold chordOf
  split_ifs <;> decide

/-- A magnitude stands in the row of R109's table that its chord names: from the chord's base over sixteen steps. -/
theorem chordOf_range {m : Nat} (hm : m ≤ 4095) :
    chordBase (chordOf m) ≤ m ∧ m < chordBase (chordOf m) + 16 * chordStep (chordOf m) := by
  unfold chordOf
  split_ifs <;> norm_num [chordBase, chordStep] <;> omega

/-- The rows of R109's table follow one another: a row ends before every later one begins. -/
theorem chordEnd_le_chordBase {c d : Nat} (h : c < d) : chordBase c + 16 * chordStep c ≤ chordBase d := by
  have hend : chordBase c + 16 * chordStep c = 16 * 2 ^ (c + 1) := by
    cases c with
    | zero => rfl
    | succ c =>
      simp only [chordBase, chordStep, Nat.succ_ne_zero, if_false]
      ring
  rw [hend, chordBase, if_neg (Nat.ne_zero_of_lt h)]
  exact Nat.mul_le_mul_left 16 (Nat.pow_le_pow_right (by decide) h)

/-- A magnitude stands in the step that R109's division finds. -/
theorem inChordStep_chordOf {m : Nat} (hm : m ≤ 4095) :
    InChordStep (chordOf m) ((m - chordBase (chordOf m)) / chordStep (chordOf m)) m := by
  obtain ⟨hlow, hhigh⟩ := chordOf_range hm
  have hpos := chordStep_pos (chordOf m)
  refine ⟨chordOf_lt m, ?_, ?_, ?_⟩
  · rw [Nat.div_lt_iff_lt_mul hpos]
    omega
  · have := Nat.div_mul_le_self (m - chordBase (chordOf m)) (chordStep (chordOf m))
    omega
  · have := Nat.lt_mul_div_succ (m - chordBase (chordOf m)) hpos
    rw [Nat.mul_comm] at this
    omega

namespace InChordStep

variable {c q m : Nat}

theorem below_chordEnd (h : InChordStep c q m) : m < chordBase c + 16 * chordStep c :=
  h.high.trans_le (Nat.add_le_add_left (Nat.mul_le_mul_right _ h.step) _)

theorem le_max (h : InChordStep c q m) : m ≤ 4095 :=
  Nat.le_of_lt_succ (h.below_chordEnd.trans_le (chordEnd_le_chordBase h.chord))

/-- The rows do not overlap, so a magnitude's chord is the one row it stands in. -/
theorem chordOf_eq (h : InChordStep c q m) : chordOf m = c := by
  obtain ⟨hlow, hhigh⟩ := chordOf_range h.le_max
  have hlow' := h.low
  have hhigh' := h.below_chordEnd
  rcases Nat.lt_trichotomy (chordOf m) c with hlt | heq | hgt
  · have := chordEnd_le_chordBase hlt
    omega
  · exact heq
  · have := chordEnd_le_chordBase hgt
    omega

theorem quotient_eq (h : InChordStep c q m) : (m - chordBase c) / chordStep c = q := by
  have hlow := h.low
  have hhigh := h.high
  exact Nat.div_eq_of_lt_le (by omega) (by omega)

end InChordStep

/-! ### The parts of a code -/

/-- The code of a sign, a chord and a step number (R109). -/
def codeOfParts (negative : Bool) (c q : Nat) : Code :=
  BitVec.ofNat 8 (255 - ((if negative then 128 else 0) + 16 * c + q))

/-- The midpoint of the magnitudes of step `q` of chord `c` (R110). -/
def stepMidpoint (c q : Nat) : Nat := chordBase c + q * chordStep c + chordStep c / 2

/-- A magnitude with a sign. -/
def signed (negative : Bool) (m : Nat) : Int := if negative then -(m : Int) else m

theorem natAbs_signed (negative : Bool) (m : Nat) : (signed negative m).natAbs = m := by
  cases negative <;> simp [signed]

theorem signed_neg_iff {m : Nat} (negative : Bool) (hm : 0 < m) : signed negative m < 0 ↔ negative = true := by
  cases negative <;> simp [signed, hm]

theorem signed_natAbs (x : Int) : signed (decide (x < 0)) x.natAbs = x := by
  by_cases hx : x < 0
  · simp only [signed, hx, decide_true, if_true]
    omega
  · simp only [signed, hx, decide_false, Bool.false_eq_true, if_false]
    omega

theorem natAbs_signed_sub (negative : Bool) (m n : Nat) :
    (signed negative m - signed negative n).natAbs = ((m : Int) - n).natAbs := by
  cases negative
  · rfl
  · simp only [signed, if_true]
    omega

/-- Every code has its parts (R110). -/
theorem exists_codeOfParts (k : Code) : ∃ negative c q, c < 8 ∧ q < 16 ∧ k = codeOfParts negative c q := by
  have hk := k.isLt
  refine ⟨decide (128 ≤ 255 - k.toNat), (255 - k.toNat) % 128 / 16, (255 - k.toNat) % 16, by omega, by omega, ?_⟩
  apply BitVec.eq_of_toNat_eq
  simp only [codeOfParts, BitVec.toNat_ofNat, decide_eq_true_eq]
  split <;> omega

theorem stepMidpoint_inChordStep {c q : Nat} (hc : c < 8) (hq : q < 16) : InChordStep c q (stepMidpoint c q) := by
  have := chordStep_pos c
  refine ⟨hc, hq, Nat.le_add_right _ _, ?_⟩
  rw [stepMidpoint, Nat.succ_mul]
  omega

/-- Midpoints are never 0, so their sign is read back; chord 0's step of 2 makes its lowest midpoint 1. -/
theorem stepMidpoint_pos (c q : Nat) : 0 < stepMidpoint c q := by
  rcases Nat.eq_zero_or_pos c with rfl | hc
  · simp [stepMidpoint, chordStep]
  · have : 0 < chordBase c := by simp [chordBase, hc.ne']
    rw [stepMidpoint]
    omega

/-! ### The conversions on parts -/

/-- Expanding a code gives the midpoint of its step, with its sign (R110). -/
theorem expand_codeOfParts (negative : Bool) {c q : Nat} (hc : c < 8) (hq : q < 16) :
    expand (codeOfParts negative c q) = signed negative (stepMidpoint c q) := by
  have hvalue : 255 - (codeOfParts negative c q).toNat = (if negative then 128 else 0) + 16 * c + q := by
    simp only [codeOfParts, BitVec.toNat_ofNat]
    split <;> omega
  have hchord : (255 - (codeOfParts negative c q).toNat) % 128 / 16 = c := by
    rw [hvalue]
    split <;> omega
  have hstep : (255 - (codeOfParts negative c q).toNat) % 16 = q := by
    rw [hvalue]
    split <;> omega
  have hsign : 128 ≤ 255 - (codeOfParts negative c q).toNat ↔ negative = true := by
    rw [hvalue]
    cases negative <;> simp <;> omega
  have hmagnitude : magnitude (codeOfParts negative c q) = stepMidpoint c q := by
    simp only [magnitude, hchord, hstep, stepMidpoint]
  simp only [expand, hsign, hmagnitude, signed]

/-- Compressing a value gives the code of its sign and of the step its magnitude lies in (R109). -/
theorem compress_of_inChordStep {c q : Nat} {x : Int} (h : InChordStep c q x.natAbs) :
    compress x = codeOfParts (decide (x < 0)) c q := by
  simp only [compress, codeOfParts, Nat.min_eq_left h.le_max, h.chordOf_eq, h.quotient_eq, decide_eq_true_eq]

/-- The midpoint of a step is within the step of each magnitude in it. -/
theorem InChordStep.natAbs_midpoint_sub_le {c q m : Nat} (h : InChordStep c q m) :
    ((stepMidpoint c q : Int) - m).natAbs ≤ chordStep c := by
  obtain ⟨-, -, hlow, hhigh⟩ := h
  rw [Nat.succ_mul] at hhigh
  rw [stepMidpoint]
  omega

/-- A code's own midpoint lies in the code's range, so it compresses back to the code (R110). -/
theorem compress_expand (k : Code) : compress (expand k) = k := by
  obtain ⟨negative, c, q, hc, hq, rfl⟩ := exists_codeOfParts k
  have hin : InChordStep c q (signed negative (stepMidpoint c q)).natAbs := by
    rw [natAbs_signed]
    exact stepMidpoint_inChordStep hc hq
  rw [expand_codeOfParts negative hc hq, compress_of_inChordStep hin]
  simp only [signed_neg_iff negative (stepMidpoint_pos c q), Bool.decide_eq_true]

/-- A value and its code's midpoint lie in one step and bear one sign. -/
theorem natAbs_expand_compress_sub_le {x : Int} (hx : x.natAbs ≤ 4095) :
    (expand (compress x) - x).natAbs ≤ chordStep (chordOf x.natAbs) := by
  have hin := inChordStep_chordOf hx
  rw [compress_of_inChordStep hin, expand_codeOfParts _ hin.chord hin.step]
  calc
    _ = (signed (decide (x < 0)) (stepMidpoint _ _) - signed (decide (x < 0)) x.natAbs).natAbs := by rw [signed_natAbs]
    _ = ((stepMidpoint _ _ : Int) - x.natAbs).natAbs := natAbs_signed_sub _ _ _
    _ ≤ _ := hin.natAbs_midpoint_sub_le

end Sys2Proof.Machine

namespace Sys2Proof.Proofs
open Sys2Proof Sys2Proof.Machine

/-- Settles O55: codes and values by the parts of a code, its sign, chord and step number. -/
theorem codesSurviveTheLinearDomain : Obligations.CodesSurviveTheLinearDomain :=
  ⟨compress_expand, fun _ hlow hhigh => natAbs_expand_compress_sub_le (by omega)⟩

end Sys2Proof.Proofs
end

/-! The engines slot by slot (chapter 8): what arrives, what is aimed afresh and what wraps changes the fields of the
engine it names, and each engine's alone. -/
section
namespace Sys2Proof.Machine

/-- The fields of a bound engine changed by `f`; its counts stand, and a free engine keeps nothing to change (R119). -/
def EngineSlot.change (f : Engine → Engine) (x : EngineSlot) : EngineSlot := { x with bound := x.bound.map f }

@[simp] theorem EngineSlot.change_count (f : Engine → Engine) (x : EngineSlot) : (x.change f).count = x.count := rfl

@[simp] theorem EngineSlot.change_bound (f : Engine → Engine) (x : EngineSlot) : (x.change f).bound = x.bound.map f := rfl

@[simp] theorem EngineSlot.change_change (f g : Engine → Engine) (x : EngineSlot) :
    (x.change f).change g = x.change (g ∘ f) := by
  simp [change, Option.map_map]

theorem EngineSlot.change_free (f : Engine → Engine) (x : EngineSlot) (h : x.bound = none) : x.change f = x := by
  obtain ⟨count, underruns, bound⟩ := x
  subst h
  rfl

theorem EngineSlot.change_some (f : Engine → Engine) (x : EngineSlot) (eng : Engine) (h : x.bound = some eng) :
    x.change f = { x with bound := some (f eng) } := by
  rw [change, h]
  rfl

theorem EngineSlot.change_id (x : EngineSlot) : x.change (fun eng => eng) = x := by
  simp [change]

/-- Engine `e` of the station changed by `f`, where it is bound. -/
def changeEngine (e : Fin 16) (f : Engine → Engine) (s : Station) : Station :=
  { s with engines := s.engines.put e ((s.engines.get e).change f) }

theorem changeEngine_slot (e x : Fin 16) (f : Engine → Engine) (s : Station) :
    (changeEngine e f s).engines.get x = if x = e then (s.engines.get x).change f else s.engines.get x := by
  by_cases hx : x = e
  · subst hx
    simp [changeEngine]
  · simp [changeEngine, hx, Ne.symm hx]

theorem changeEngine_free (e : Fin 16) (f : Engine → Engine) (s : Station) (h : engineAt s e = none) :
    changeEngine e f s = s := by
  rw [changeEngine, EngineSlot.change_free f _ h, put_get_self]

theorem changeEngine_bound (e : Fin 16) (f : Engine → Engine) (s : Station) (eng : Engine)
    (h : engineAt s e = some eng) : changeEngine e f s = setEngine e (f eng) s := by
  rw [changeEngine, EngineSlot.change_some f _ eng h, setEngine]

/-- Work of every engine, each on its own fields alone and with nothing of the engines to read: the engines do not
meet. -/
theorem eachEngine_slot (f : Fin 16 → Station → Station) (g : Station → Engine → Engine)
    (hf : ∀ e s, f e s = changeEngine e (g s) s) (hg : ∀ s es, g { s with engines := es } = g s) (s : Station)
    (x : Fin 16) : (eachEngine f s).engines.get x = (s.engines.get x).change (g s) := by
  have hlist : ∀ (l : List (Fin 16)) (s : Station), l.Nodup → (l.foldl (fun s e => f e s) s).engines.get x =
      if x ∈ l then (s.engines.get x).change (g s) else s.engines.get x := by
    intro l
    induction l with
    | nil => intro s _; rfl
    | cons e rest ih =>
      intro s hnodup
      obtain ⟨he, hrest⟩ := List.nodup_cons.mp hnodup
      have hreads : g (f e s) = g s := by rw [hf, changeEngine, hg]
      rw [List.foldl_cons, ih (f e s) hrest, hreads, hf, changeEngine_slot]
      by_cases hx : x = e
      · subst hx
        rw [if_neg he, if_pos rfl, if_pos List.mem_cons_self]
      · simp only [List.mem_cons, hx, false_or, if_false]
  rw [eachEngine, hlist (numbers 16) s (List.nodup_finRange 16), numbers, if_pos (List.mem_finRange x)]

/-! ### Arrival (R119, R128) -/

/-- Items for another engine, or of an earlier binding, change nothing of an engine. -/
theorem received_skip (count : BitVec 8) (e : Fin 16) (d : DueItem) (rest : List DueItem)
    (h : ¬ (d.engine = e ∧ d.count = count)) : received count e (d :: rest) = received count e rest := by
  funext eng
  rw [received, if_neg h]

theorem received_cons (count : BitVec 8) (e : Fin 16) (d : DueItem) (rest : List DueItem) :
    received count e (d :: rest) = received count e rest ∘ received count e [d] := rfl

/-- An arrival leaves the channel an engine is bound to. -/
theorem received_channel (count : BitVec 8) (e : Fin 16) (ds : List DueItem) (eng : Engine) :
    (received count e ds eng).channel = eng.channel := by
  induction ds generalizing eng with
  | nil => rfl
  | cons d rest ih =>
    rw [received, ih]
    split <;> rfl

/-- An item due reaches the engine it names, in its binding (R128). -/
theorem deliver_eq (d : DueItem) (s : Station) :
    deliver d s = changeEngine d.engine (received (s.engines.get d.engine).count d.engine [d]) s := by
  cases he : engineAt s d.engine with
  | none => simp [deliver, he, changeEngine_free]
  | some eng =>
    rw [changeEngine_bound _ _ _ eng he]
    by_cases hcount : (s.engines.get d.engine).count = d.count
    · simp [deliver, he, hcount, received, Engine.arrive]
    · simp [deliver, he, hcount, received, Ne.symm hcount, setEngine_self _ _ _ he]

/-- Items handed over one after another reach each engine in their order (R141). -/
theorem deliverAll_slot (ds : List DueItem) (s : Station) (x : Fin 16) :
    (ds.foldl (fun s d => deliver d s) s).engines.get x =
      (s.engines.get x).change (received (s.engines.get x).count x ds) := by
  induction ds generalizing s with
  | nil => exact (EngineSlot.change_id _).symm
  | cons d rest ih =>
    rw [List.foldl_cons, ih, deliver_eq, changeEngine_slot]
    by_cases hx : x = d.engine
    · subst hx
      rw [if_pos rfl, EngineSlot.change_change, EngineSlot.change_count, ← received_cons]
    · rw [if_neg hx, received_skip _ _ _ _ fun h => hx h.1.symm]

/-- The items that fall due at the step in progress (R141). -/
def dueNow (s : Station) : List DueItem := s.store.due.filter fun d => decide (d.step ≤ s.store.step)

theorem arrivals_slot (s : Station) (x : Fin 16) : (arrivals s).engines.get x =
    (s.engines.get x).change (received (s.engines.get x).count x (dueNow s)) :=
  deliverAll_slot (dueNow s) s x

theorem arrivals_notDue (s : Station) (h : arrivalDue s = false) : arrivals s = s := by
  have hlater : ∀ d ∈ s.store.due, s.store.step < d.step := by simpa [arrivalDue] using h
  have hnow : (s.store.due.filter fun d => decide (d.step ≤ s.store.step)) = [] := by simpa using hlater
  have hkept : (s.store.due.filter fun d => !decide (d.step ≤ s.store.step)) = s.store.due := by simpa using hlater
  simp [arrivals, hnow, hkept]

/-- With nothing due the command finds nothing to hand over, which is what the arrivals of that step are (log entry 9). -/
theorem exec_fetchDataArrival (s : State) : exec .fetchDataArrival s = .next ⟨arrivals s.toStation, s.pending⟩ := by
  have hdue : whenDue (arrivalDue s.toStation) arrivals s.toStation = arrivals s.toStation := by
    cases h : arrivalDue s.toStation with
    | true => rfl
    | false => rw [whenDue_false, arrivals_notDue _ h]
  rw [← hdue]
  rfl

/-- The arrivals of a step: the engines, the due list and the data lines change, and nothing else (R141, R152). -/
theorem arrivals_frame (s : Station) : arrivals s = { s with
    engines := (arrivals s).engines
    store := { s.store with
      due := s.store.due.filter fun d => decide (s.store.step < d.step)
      lines := { s.store.lines with read := s.store.lines.read ++ (dueNow s).map DueItem.codes } } } := by
  have hlater : (fun d : DueItem => decide (s.store.step < d.step)) = fun d => !decide (d.step ≤ s.store.step) := by
    funext d
    rw [← decide_not, decide_eq_decide, Nat.not_le]
  obtain ⟨es, h⟩ := arrivals_changes s
  rw [hlater, h]
  rfl

/-- One item alone on the due list, and due: it is handed over and the list is empty (R141). -/
theorem arrivals_single (s : Station) (d : DueItem) (hlist : s.store.due = [d]) (hdue : d.step ≤ s.store.step) :
    arrivals s = { s with
      engines := (deliver d s).engines
      store := { s.store with due := [], lines := { s.store.lines with read := s.store.lines.read ++ [d.codes] } } } := by
  obtain ⟨es, h⟩ := deliver_changes d s
  simp [arrivals, hlist, hdue, h]

end Sys2Proof.Machine

namespace Sys2Proof.Proofs
open Sys2Proof Sys2Proof.Machine

/-- Settles O52: the items due go through the engines slot by slot; one item alone meets its binding or another. -/
theorem fetchedDataReachesItsBinding : Obligations.FetchedDataReachesItsBinding := by
  constructor
  · intro s
    refine ⟨_, exec_fetchDataArrival s, congrArg (fun t => (⟨t, s.pending⟩ : State)) (arrivals_frame s.toStation),
      fun e he => ?_, fun e eng he => ?_⟩
    · exact (arrivals_slot _ e).trans (EngineSlot.change_free _ _ he)
    · exact (arrivals_slot _ e).trans (EngineSlot.change_some _ _ eng he)
  · intro s d hlist hdue
    have hexec := exec_fetchDataArrival s
    rw [arrivals_single s.toStation d hlist hdue] at hexec
    refine ⟨fun eng heng hcount => ?_, fun hother => ?_⟩
    · have hreceived : deliver d s.toStation = setEngine d.engine (eng.arrive d.place d.codes) s.toStation := by
        simp [deliver, heng, hcount]
      rw [hreceived] at hexec
      exact ⟨_, hexec, rfl, engineAt_setEngine d.engine _ s.toStation, fun e he => setEngine_other d.engine e _ _ he, rfl⟩
    · have hdiscarded : deliver d s.toStation = s.toStation := by
        rcases hother with hfree | hcount
        · simp [deliver, hfree]
        · cases he : engineAt s.toStation d.engine <;> simp [deliver, he, hcount]
      rw [hdiscarded] at hexec
      exact hexec

end Sys2Proof.Proofs
end

/-! FETCH and FETCH-CLOSE as the controller decides them: the engine that asks, and what the fetch makes of it and of the
store (R125, R126, R137, R141). -/
section
namespace Sys2Proof.Machine

/-- Of two writes to one place the later stands. -/
theorem put_put {n : Nat} {α : Type} (t : Tbl n α) (i : Fin n) (a b : α) : (t.put i a).put i b = t.put i b := by
  simp [Tbl.put]

theorem setEngine_setEngine (e : Fin 16) (a b : Engine) (s : Station) :
    setEngine e b (setEngine e a s) = setEngine e b s := by
  simp [setEngine, put_put]

/-! ### Requests aimed afresh (R125) -/

theorem aimsAfresh_iff (eng : Engine) : aimsAfresh eng ↔ eng.requests = true ∧ eng.pointer.cycle = eng.mark.cycle
    ∧ 16 * (eng.pointer.burst + 1) ≤ eng.mark.number := by
  have hspace : (16 : Int) ≤ eng.freeSpace ↔ eng.ring.length + 16 * eng.flights.length ≤ 16 := by
    unfold Engine.freeSpace
    omega
  simp [aimsAfresh, Engine.requests, hspace, and_assoc]

theorem reaim_aims (eng : Engine) (h : aimsAfresh eng) :
    eng.reaim = { eng with pointer := { eng.pointer with burst := eng.mark.number / 16 } } := by
  obtain ⟨hasks, hcycle, hbefore⟩ := (aimsAfresh_iff eng).mp h
  simp [Engine.reaim, hasks, hcycle, hbefore]

theorem reaim_stands (eng : Engine) (h : ¬ aimsAfresh eng) : eng.reaim = eng := by
  rw [aimsAfresh_iff, ← and_assoc] at h
  exact if_neg (by simpa using h)

theorem reaim_channel (eng : Engine) : eng.reaim.channel = eng.channel := by
  unfold Engine.reaim
  split <;> rfl

theorem reaimEngine_eq (e : Fin 16) (s : Station) : reaimEngine e s = changeEngine e Engine.reaim s := by
  cases he : engineAt s e with
  | none => simp [reaimEngine, he, changeEngine_free]
  | some eng => simp [reaimEngine, he, changeEngine_bound]

/-! ### Wraps (R126) -/

/-- What a wrap of the station makes of an engine: of one past the end of its playing cycle, and of any other. -/
def Engine.wrapIn (s : Station) (eng : Engine) : Engine :=
  match recordOf s eng with
  | none => eng
  | some r => if eng.wrapDue r.substate then eng.wrap (currentArea s r.announcement eng.area) else eng

theorem wrapEngine_eq (e : Fin 16) (s : Station) : wrapEngine e s = changeEngine e (Engine.wrapIn s) s := by
  cases he : engineAt s e with
  | none => simp [wrapEngine, he, changeEngine_free]
  | some eng =>
    rw [changeEngine_bound _ _ _ eng he]
    cases hr : recordOf s eng with
    | none => simp [wrapEngine, he, hr, Engine.wrapIn, setEngine_self]
    | some r =>
      cases hdue : eng.wrapDue r.substate with
      | true => simp [wrapEngine, he, hr, Engine.wrapIn, hdue]
      | false => simp [wrapEngine, he, hr, Engine.wrapIn, hdue, setEngine_self]

/-- A wrap reads the holdings and the directory alone. -/
theorem wrapIn_congr {s t : Station} (htable : t.table = s.table) (htables : t.tables = s.tables) :
    Engine.wrapIn t = Engine.wrapIn s := by
  funext eng
  simp only [Engine.wrapIn, recordOf, currentArea, findEntry, htable, htables]

theorem wrapEngine_setEngine (e : Fin 16) (eng : Engine) (s : Station) :
    wrapEngine e (setEngine e eng s) = setEngine e (eng.wrapIn s) s := by
  rw [wrapEngine_eq, changeEngine_bound _ _ _ eng (engineAt_setEngine e eng s),
    wrapIn_congr (s := s) (setEngine_table e eng s) (setEngine_tables e eng s)]
  exact setEngine_setEngine e eng _ s

theorem wrapIn_flights (s : Station) (eng : Engine) : (eng.wrapIn s).flights = eng.flights := by
  unfold Engine.wrapIn
  split
  · rfl
  · split <;> rfl

theorem wrapDue_iff (r : CycleRecord) (eng : Engine) : eng.wrapDue r.substate = true ↔ pastPlaying r eng := by
  simp [Engine.wrapDue, pastPlaying, and_assoc]

theorem wrapIn_wrapped (s : Station) (eng : Engine) (r : CycleRecord) (entry : Entry)
    (hr : s.table.holding.get eng.channel = .cycle r) (he : findEntry s r.announcement = some entry) :
    wrapped r entry eng (eng.wrapIn s) := by
  have hrecord : recordOf s eng = some r := by simp [recordOf, hr]
  rw [wrapped, ← wrapDue_iff]
  constructor
  · intro hpast
    simp [Engine.wrapIn, hrecord, hpast, Engine.wrap, currentArea, he]
  · intro hwithin
    simp [Engine.wrapIn, hrecord, hwithin]

/-! ### The engines as the decision finds them -/

theorem prepareStep_eq (s : Station) : prepareStep s = eachEngine reaimEngine
    (loaderReady (pendingCloses (arrivals (whenDue (localFrameDue s) startLocalFrame s)))) := rfl

theorem prepareStep_slot (s : Station) (x : Fin 16) : (prepareStep s).engines.get x =
    (s.engines.get x).change (Engine.reaim ∘ received (s.engines.get x).count x (dueNow s)) := by
  obtain ⟨n, f, d, w, hframe⟩ := localFrame_changes s
  obtain ⟨b, hclose⟩ := pendingCloses_changes (arrivals (whenDue (localFrameDue s) startLocalFrame s))
  obtain ⟨o, l, hload⟩ := loaderReady_changes (pendingCloses (arrivals (whenDue (localFrameDue s) startLocalFrame s)))
  rw [prepareStep_eq, eachEngine_slot reaimEngine (fun _ => Engine.reaim) reaimEngine_eq fun _ _ => rfl, hload, hclose]
  refine (congrArg (EngineSlot.change Engine.reaim) (arrivals_slot _ x)).trans ?_
  rw [EngineSlot.change_change, hframe]
  rfl

theorem wrapEngines_slot (s : Station) (x : Fin 16) :
    (wrapEngines s).engines.get x = (s.engines.get x).change (Engine.wrapIn s) :=
  eachEngine_slot wrapEngine Engine.wrapIn wrapEngine_eq (fun _ _ => wrapIn_congr rfl rfl) s x

/-- What falls due at a step leaves what it does not count, hand over or close (R136). -/
theorem prepareStep_storePart {β : Type} (part : Store → β)
    (hpart : ∀ (t : Store) frames debt work banks due lines, part { t with
      frames := frames, debt := debt, work := work, banks := banks, due := due, lines := lines } = part t)
    (s : Station) : part (prepareStep s).store = part s.store := by
  obtain ⟨n, f, d, w, hframe⟩ := localFrame_changes s
  obtain ⟨o, l, e, b, hdue⟩ := fallDue_changes (whenDue (localFrameDue s) startLocalFrame s)
  rw [prepareStep_eq, hdue, hframe]
  exact hpart s.store _ _ _ _ _ _

theorem prepareStep_engineAt (s : Station) (e : Fin 16) (eng : Engine) (h : engineAt s e = some eng) :
    engineAt (prepareStep s) e = some (received (s.engines.get e).count e (dueNow s) eng).reaim := by
  rw [engineAt, prepareStep_slot, EngineSlot.change_some _ _ eng h]
  rfl

theorem wrapEngines_engineAt (s : Station) (e : Fin 16) (eng : Engine) (h : engineAt s e = some eng) :
    engineAt (wrapEngines s) e = some (eng.wrapIn s) := by
  rw [engineAt, wrapEngines_slot, EngineSlot.change_some _ _ eng h]

theorem prepareStep_wrapIn (s : Station) : Engine.wrapIn (prepareStep s) = Engine.wrapIn s := by
  obtain ⟨n, o, l, e, st, h, -⟩ := prepareStep_changes s
  rw [h]
  exact wrapIn_congr rfl rfl

theorem wrappedStep_wrapIn (s : Station) : Engine.wrapIn (wrapEngines (prepareStep s)) = Engine.wrapIn s :=
  (wrapEngines_leaves Engine.wrapIn (fun _ _ => wrapIn_congr rfl rfl) _).trans (prepareStep_wrapIn s)

/-- The bursts of the store, read at a step, stand as they were before it (R135). -/
theorem wrappedStep_readBurst (s : Station) (a : Nat) : readBurst (wrapEngines (prepareStep s)) a = readBurst s a := by
  have hepoch : (prepareStep s).store.epoch = s.store.epoch :=
    prepareStep_storePart Store.epoch (fun _ _ _ _ _ _ _ => rfl) s
  simp only [readBurst, wrapEngines_store, prepareStep_memory, hepoch]

/-- The data of a fetch decided at the step in progress: read now, due L steps later, under the present binding. -/
theorem wrappedStep_dueItem (s : Station) (e : Fin 16) (eng : Engine) : dueItem (wrapEngines (prepareStep s)) e eng =
    { step := s.store.step + s.store.latency.getD 0, engine := e, count := (s.engines.get e).count
      place := eng.pointer, codes := readBurst s (eng.area.base + eng.pointer.burst) } := by
  have hlatency : (prepareStep s).store.latency = s.store.latency :=
    prepareStep_storePart Store.latency (fun _ _ _ _ _ _ _ => rfl) s
  simp only [dueItem, wrappedStep_readBurst, wrapEngines_store, prepareStep_step, hlatency, wrapEngines_slot,
    prepareStep_slot, EngineSlot.change_count, Engine.address]

/-! ### The command (R126, R137) -/

theorem doFetch_bound (e : Fin 16) (close : Bool) (s : Station) (eng : Engine) (h : engineAt s e = some eng) :
    doFetch e close s = setEngine e (eng.issue.wrapIn s) { s with store :=
      { s.store.markFetch (bankOf eng.address) close with due := s.store.due ++ [dueItem s e eng] } } := by
  simp only [doFetch, h]
  exact wrapEngine_setEngine e eng.issue _

/-- What a FETCH decided at the step in progress makes of the station `w` that the decision finds: the fetch in the bank
record and the due list, and the engine's pointer moved on and wrapped; the work and the draw are left open. -/
def burstFetched (e : Fin 16) (close : Bool) (eng : Engine) (w t : Station) : Prop :=
  ∃ bus n work, t = setEngine e (eng.issue.wrapIn w) { w with
    draw := n
    store := Store.carry { w.store.markFetch (bankOf eng.address) close with
      work := work, due := w.store.due ++ [dueItem w e eng] } (.fetch e close) bus }

theorem decideAndCarry_fetch (s : Station) (e : Fin 16) (close : Bool) (eng : Engine)
    (hcmd : (decideStep (wrapEngines s)).cmd = some (.fetch e close)) (h : engineAt (wrapEngines s) e = some eng) :
    burstFetched e close eng (wrapEngines s) (decideAndCarry s) := by
  obtain ⟨n, hcarry⟩ | ⟨cl, hput, -⟩ := decideAndCarry_cases s _ rfl
  · rw [hcarry]
    generalize wrapEngines s = w at hcmd h
    refine ⟨busCommand w (.fetch e close), n, (decideStep w).work, ?_⟩
    simp only [performDecision, hcmd, performCmd]
    rw [doFetch_bound e close { w with store := { w.store with work := (decideStep w).work } } eng h]
    rfl
  · rw [hcmd] at hput
    cases hput

/-- A command is decided at a step that has carried none (R137). -/
theorem issued_of_decidedNow (s : Station) (cmd : StoreCmd) (h : decidedNow s = some cmd) : s.store.issued = none := by
  by_contra hissued
  simp [decidedNow, Option.isSome_iff_ne_none.mpr hissued] at h

theorem exec_fetch (s : State) (e : Fin 16) (close : Bool) (h : decidedNow s.toStation = some (.fetch e close)) :
    exec (if close then .fetchClose e.val else .fetch e.val) s =
      .next ⟨decideAndCarry (prepareStep s.toStation), s.pending⟩ := by
  have hissue : issueNow (.fetch e close) s.toStation = decideAndCarry (prepareStep s.toStation) := by simp [issueNow, h]
  rw [← hissue]
  cases close <;> simp [exec, execFetch, execFetchClose, State.runEngine]

section
variable {e : Fin 16} {close : Bool} {eng : Engine} {w t : Station} (h : burstFetched e close eng w t)
include h

theorem burstFetched.due : t.store.due = w.store.due ++ [dueItem w e eng] := by
  obtain ⟨bus, n, work, rfl⟩ := h
  rfl

theorem burstFetched.engine : engineAt t e = some (eng.issue.wrapIn w) := by
  obtain ⟨bus, n, work, rfl⟩ := h
  exact engineAt_setEngine e _ _

theorem burstFetched.otherEngine (x : Fin 16) (hx : x ≠ e) : t.engines.get x = w.engines.get x := by
  obtain ⟨bus, n, work, rfl⟩ := h
  exact setEngine_other e x _ _ hx

theorem burstFetched.bank : t.store.banks.get (bankOf eng.address) = { w.store.banks.get (bankOf eng.address) with
    lastFetch := some w.store.step
    pendingClose := if close then some (w.store.step + 1) else (w.store.banks.get (bankOf eng.address)).pendingClose } := by
  obtain ⟨bus, n, work, rfl⟩ := h
  exact Tbl.get_put_same _ _ _

theorem burstFetched.otherBank (x : Fin 8) (hx : x ≠ bankOf eng.address) :
    t.store.banks.get x = w.store.banks.get x := by
  obtain ⟨bus, n, work, rfl⟩ := h
  exact Tbl.get_put_ne _ _ _ _ (Ne.symm hx)

theorem burstFetched.frame : t.store.memory = w.store.memory ∧ t.table = w.table ∧ t.tables = w.tables
    ∧ t.monitor = w.monitor ∧ t.recorder = w.recorder := by
  obtain ⟨bus, n, work, rfl⟩ := h
  exact ⟨rfl, rfl, rfl, rfl, rfl⟩

end

/-- The engine that asks at a step: what the arrivals leave it, aimed afresh where its request lies before its mark, and
then wrapped where it is past its playing cycle (R125, R126, R128). -/
theorem wrappedStep_engine (s : Station) (e : Fin 16) (g : Engine) (hg : engineAt s e = some g) :
    ∃ g1, engineAt (prepareStep s) e = some g1
      ∧ (∀ h, h = received (s.engines.get e).count e (dueNow s) g →
          (aimsAfresh h → g1 = { h with pointer := { h.pointer with burst := h.mark.number / 16 } })
          ∧ (¬ aimsAfresh h → g1 = h))
      ∧ ∀ r entry, s.table.holding.get g.channel = .cycle r → findEntry s r.announcement = some entry →
          ∃ g2, engineAt (wrapEngines (prepareStep s)) e = some g2 ∧ wrapped r entry g1 g2 := by
  have prepareStep_eqd := prepareStep_engineAt s e g hg
  refine ⟨_, prepareStep_eqd, ?_, fun r entry hr he => ⟨_, wrapEngines_engineAt _ e _ prepareStep_eqd, ?_⟩⟩
  · rintro h rfl
    exact ⟨reaim_aims _, reaim_stands _⟩
  · rw [prepareStep_wrapIn]
    exact wrapIn_wrapped s _ r entry (by rwa [reaim_channel, received_channel]) he

end Sys2Proof.Machine

namespace Sys2Proof.Proofs
open Sys2Proof Sys2Proof.Machine

/-- Settles O48: the engine that asks, as the arrivals, the aim and the wraps leave it, and then the fetch it is given. -/
theorem fetchReadsTheBurstAskedFor : Obligations.FetchReadsTheBurstAskedFor := by
  refine ⟨fun s => wrappedStep_engine s.toStation, fun s e close eng hdecided heng => ?_⟩
  have hfree := issued_of_decidedNow s.toStation _ hdecided
  have hcmd := (decidedNow_free s.toStation hfree).symm.trans hdecided
  have hfetch := decideAndCarry_fetch (prepareStep s.toStation) e close eng hcmd heng
  have hstep : (wrapEngines (prepareStep s.toStation)).store.step = s.store.step := by
    rw [wrapEngines_store, prepareStep_step]
  have hexec := exec_fetch s e close hdecided
  generalize decideAndCarry (prepareStep s.toStation) = t at hfetch hexec
  have hlastFetch := (congrArg Bank.lastFetch hfetch.bank).trans (congrArg some hstep)
  obtain ⟨hmemory, htable, htables, hmonitor, hrecorder⟩ := hfetch.frame
  obtain ⟨n, o, l, es, st, hwrapped⟩ := wrappedStep_changes s.toStation
  refine ⟨_, _, hexec, ?_, hfetch.engine, fun r entry hr he => ?_, wrapIn_flights _ _,
    hlastFetch, fun hclose => ?_, ?_, ?_, ?_, ?_, ?_,
    fun x hx => ?_, hfetch.otherEngine⟩
  · rw [hfetch.due, wrappedStep_dueItem]
  · rw [wrappedStep_wrapIn]
    exact wrapIn_wrapped s.toStation eng.issue r entry hr he
  · refine (congrArg Bank.pendingClose hfetch.bank).trans ?_
    rw [hclose, hstep]
    rfl
  · rw [hmemory, wrapEngines_store, prepareStep_memory]
  · rw [htable, hwrapped]
  · rw [htables, hwrapped]
  · rw [hmonitor, hwrapped]
  · rw [hrecorder, hwrapped]
  · exact (hfetch.otherBank x hx).trans (by rw [wrapEngines_store])

end Sys2Proof.Proofs
end

/-! The numbers a command can name: one that the station has is acted on, and any other stops the command (log entry
6). -/
section
namespace Sys2Proof.Machine

/-! ### Channels, banks and engines -/

theorem State.runChannel_answers (s : State) (c : Nat) (f : Channel → Station → Station) (h : channelOk c = true) :
    ∃ t, s.runChannel c f = .next t :=
  ⟨_, s.runChannel_val ⟨c, of_decide_eq_true h⟩ f⟩

theorem State.runBank_answers (s : State) (b : Nat) (f : Fin 8 → Station → Station) (h : bankOk b = true) :
    ∃ t, s.runBank b f = .next t :=
  ⟨_, dif_pos (of_decide_eq_true h)⟩

theorem State.runEngine_answers (s : State) (e : Nat) (f : Fin 16 → Station → Station) (h : engineOk e = true) :
    ∃ t, s.runEngine e f = .next t :=
  ⟨_, dif_pos (of_decide_eq_true h)⟩

theorem State.runChannel_absent (s : State) (c : Nat) (f : Channel → Station → Station) (h : 48 ≤ c) :
    s.runChannel c f = .fault .noSuchChannel := dif_neg (Nat.not_lt.mpr h)

theorem State.runBank_absent (s : State) (b : Nat) (f : Fin 8 → Station → Station) (h : 8 ≤ b) :
    s.runBank b f = .fault .noSuchBank := dif_neg (Nat.not_lt.mpr h)

theorem State.runEngine_absent (s : State) (e : Nat) (f : Fin 16 → Station → Station) (h : 16 ≤ e) :
    s.runEngine e f = .fault .noSuchEngine := dif_neg (Nat.not_lt.mpr h)

/-! ### OPEN, which names a bank and a row (R137) -/

theorem execOpen_row (b row : Nat) (s : State) (h : row < 8192) :
    execOpen b row s = s.runBank b fun b => issueNow (.openRow b row) := if_pos h

theorem execOpen_absent (b row : Nat) (s : State) (h : 8192 ≤ row) :
    execOpen b row s = .fault .noSuchRow := if_neg (Nat.not_lt.mpr h)

/-- A command whose numbers the station has does not stop: only the commands below name one. -/
theorem exec_answers (c : Instr) (s : State) (h : c.wellFormed = true) : ∃ t, exec c s = .next t := by
  cases c with simp only [exec]
  | ownerPosition c others => exact s.runChannel_answers c _ (Bool.and_eq_true_iff.mp h).1
  | samplePosition c others => exact s.runChannel_answers c _ h
  | contentionSurrender c => exact s.runChannel_answers c _ h
  | backOffExpiry c => exact s.runChannel_answers c _ h
  | stepExpiry c => exact s.runChannel_answers c _ h
  | toneQuietExpiry c => exact s.runChannel_answers c _ h
  | cycleQuietExpiry c => exact s.runChannel_answers c _ h
  | audioEnd c => exact s.runChannel_answers c _ h
  | startBoundary c => exact s.runChannel_answers c _ h
  | openRow b row =>
    obtain ⟨hbank, hrow⟩ := Bool.and_eq_true_iff.mp h
    rw [execOpen_row b row s (of_decide_eq_true hrow)]
    exact s.runBank_answers b _ hbank
  | close b => exact s.runBank_answers b _ h
  | pendingClose b => exact s.runBank_answers b _ h
  | fetch e => exact s.runEngine_answers e _ h
  | fetchClose e => exact s.runEngine_answers e _ h
  | _ => exact ⟨_, rfl⟩

end Sys2Proof.Machine

namespace Sys2Proof.Proofs
open Sys2Proof Sys2Proof.Machine

/-- Settles O2: a number is one the station has or it is not, for each kind of number a command names. -/
theorem onlyAbsentNumbersStop : Obligations.OnlyAbsentNumbersStop := by
  refine ⟨exec_answers, fun n s hn => ?_, fun n row s hn hrow => ⟨?_, ?_⟩, fun n row s hrow => ?_, fun n s hn => ?_⟩
  · simp only [exec]
    exact ⟨fun _ => s.runChannel_absent n _ hn, fun _ => s.runChannel_absent n _ hn, s.runChannel_absent n _ hn,
      s.runChannel_absent n _ hn, s.runChannel_absent n _ hn, s.runChannel_absent n _ hn, s.runChannel_absent n _ hn,
      s.runChannel_absent n _ hn, s.runChannel_absent n _ hn⟩
  · rw [exec, execOpen_row n row s hrow]
    exact s.runBank_absent n _ hn
  · simp only [exec]
    exact ⟨s.runBank_absent n _ hn, s.runBank_absent n _ hn⟩
  · exact execOpen_absent n row s hrow
  · simp only [exec]
    exact ⟨s.runEngine_absent n _ hn, s.runEngine_absent n _ hn⟩

end Sys2Proof.Proofs
end

/-! What leaves the store standing: the channel table, the tones and cycles, the recorder, and the reply positions that
enter no other station state (chapters 2 to 6 and 11). -/
section
namespace Sys2Proof.Machine

/-! ### Channels returned, lost and claimed (R21 to R30) -/

section
variable (c : Channel) (s : Station)

@[simp] theorem returnAll_store (target : Nat) (cs : List Channel) (s : Station) :
    (returnAll target cs s).store = s.store :=
  foldl_keeps (fun t => t.store = s.store) _ cs
    (fun t c h => (returnChannel_leaves Station.store (fun _ _ _ => rfl) target c t).trans h) s rfl

@[simp] theorem Work.finish_store (w : Work) : w.finish.store = w.station.store := by simp [Work.finish]

@[simp] theorem loseChannel_store (detail : Nat) : (loseChannel c detail s).store = s.store := by
  obtain ⟨t, f, e, r, h⟩ := dropChannel_changes c s
  unfold loseChannel
  split <;> simp [h]

theorem releaseNewest_store : (releaseNewest s).store = s.store := by
  obtain ⟨-, h⟩ | ⟨rest, x, -, h⟩ := releaseNewest_cases s <;> rw [h]

theorem releaseSurplus_store : (releaseSurplus s).store = s.store :=
  whenDue_leaves Station.store _ _ s (releaseNewest_store s)

@[simp] theorem settleClaim_store (won : Bool) : (settleClaim c won s).store = s.store := by
  obtain ⟨-, -, h⟩ | ⟨-, rest, x, -, -, h⟩ | ⟨-, h⟩ := settleClaim_cases c won s <;> rw [h]

@[simp] theorem duplicateIdentity_store : (duplicateIdentity c s).store = s.store := by simp [duplicateIdentity]

theorem ownerPosition_store (others : List OwnerCode) : (ownerPosition c others s).store = s.store := by
  simp only [ownerPosition]
  split
  · split
    · simp
    · split <;> simp
  · split <;> simp

theorem claim_store : (claim s).store = s.store := by
  unfold claim
  split <;> rfl

/-! ### Sample positions and the recorder (R10 to R12, R163 to R168) -/

@[simp] theorem startCapture_store : (startCapture s).store = s.store := by
  unfold startCapture
  split <;> rfl

@[simp] theorem stopCapture_store : (stopCapture s).store = s.store := by
  unfold stopCapture
  split <;> simp

theorem recorderSample_store (k : Code) : (recorderSample k s).store = s.store := by
  unfold recorderSample
  split
  · rfl
  · dsimp only
    split
    · split
      · exact whenDue_leaves Station.store _ _ _ (startCapture_store _)
      · rfl
    · exact (whenDue_leaves Station.store _ _ _ (stopCapture_store _)).trans
        (whenDue_leaves Station.store _ _ _ (stopCapture_store _))
    · rfl

theorem contentionEvent_store : (contentionEvent c s).store = s.store :=
  whenDue_leaves Station.store _ _ _ (loseChannel_store c _ 15)

theorem samplePosition_store (others : Code) : (samplePosition c others s).store = s.store :=
  (whenDue_leaves Station.store _ _ _ (recorderSample_store _ _)).trans
    (whenDue_leaves Station.store _ _ _ (contentionEvent_store c _))

@[simp] theorem startSearch_store : (startSearch s).store = s.store := by
  unfold startSearch
  split <;> rfl

theorem returnInput_store (r : Recording) : (returnInput r s).store = s.store := by
  unfold returnInput
  split
  · rfl
  · exact returnChannel_leaves Station.store (fun _ _ _ => rfl) _ _ s

theorem settleCommit_store : (settleCommit s).store = s.store := by
  unfold settleCommit
  split
  · rfl
  · split <;> rfl

theorem commitRecording_store : (commitRecording s).store = s.store := by
  unfold commitRecording
  split
  · rfl
  · exact (settleCommit_store _).trans (returnInput_store _ _)

theorem discardRecording_store : (discardRecording s).store = s.store := by
  unfold discardRecording
  split
  · rfl
  · exact returnInput_store _ _

/-! ### Tone channels (R95 to R105) -/

theorem toneFrame_store : (toneFrame c s).store = s.store := by
  unfold toneFrame
  split <;> rfl

theorem expireStep_store : (expireStep c s).store = s.store := by
  unfold expireStep
  split <;> rfl

@[simp] theorem expireTone_store (w : Work) : (expireTone c w).station.store = w.station.store := by
  unfold expireTone
  split
  · dsimp only
    split <;> rfl
  · rfl

theorem toneBoundary_store (w : Work) : (toneBoundary c w).station.store = w.station.store := by
  have hquiet : ∀ s : Station, (stepToneQuiet c s).store = s.store := fun s => by
    unfold stepToneQuiet
    split <;> rfl
  have hcadence : ∀ s : Station, (toneCadence c s).store = s.store := fun s => by
    unfold toneCadence
    split <;> rfl
  refine (hcadence _).trans ?_
  split
  · exact (expireTone_store c _).trans (hquiet _)
  · exact hquiet _

theorem toneLeave_store : (toneLeave c s).store = s.store := by
  unfold toneLeave
  split
  · split
    · rfl
    · dsimp only
      split
      · exact Work.finish_store _
      · rfl
  · rfl

theorem markStanding_store (mark : Bool) : (markStanding c mark s).store = s.store := by
  unfold markStanding
  split <;> rfl

theorem coverPlan_store (plan : Nat) : (coverPlan plan s).store = s.store := by
  unfold coverPlan
  split
  · exact markStanding_store _ s true
  · split
    · split <;> rfl
    · rfl

theorem standingStart_store : (standingStart s).store = s.store := by
  unfold standingStart
  split
  · split
    · exact coverPlan_store s _
    · rfl
  · rfl

theorem releaseAndStart_store : (releaseAndStart s).store = s.store := by
  rcases releaseAndStart_cases s with h | h <;> rw [h]
  · rw [standingStart_store, releaseSurplus_store]
  · rw [releaseSurplus_store, standingStart_store]

/-! ### Cycle channels (R74 to R89) -/

@[simp] theorem endCycle_store (w : Work) : (endCycle c w).station.store = w.station.store := by
  unfold endCycle
  split <;> rfl

@[simp] theorem startCycle_store (w : Work) : (startCycle c w).station.store = w.station.store := by
  unfold startCycle
  split
  · split <;> simp
  · rfl

@[simp] theorem endAudio_store (w : Work) : (endAudio c w).station.store = w.station.store := by
  unfold endAudio
  split
  next r hr =>
    obtain ⟨e, he⟩ := engineAudioEnd_changes r w.station
    split
    · exact endCycle_store c w
    · rw [he]
      dsimp only
      split
      · exact startCycle_store c _
      · rfl
  next => rfl

@[simp] theorem expireCycle_store (w : Work) : (expireCycle c w).station.store = w.station.store := by
  unfold expireCycle
  split <;> rfl

theorem cycleBoundary_store (w : Work) : (cycleBoundary c w).station.store = w.station.store := by
  have hquiet : ∀ s : Station, (stepCycleQuiet c s).store = s.store := fun s => by
    unfold stepCycleQuiet
    split <;> rfl
  have hsuperframes : ∀ s : Station, (stepCycleT c s).store = s.store := fun s => by
    unfold stepCycleT
    split <;> rfl
  have hnext : ∀ s : Station, (nextSuperframe c s).store = s.store := fun s => by
    unfold nextSuperframe
    split
    · split <;> rfl
    · rfl
  have hends : ∀ v : Work, (if audioEndDue c v.station then endAudio c v else if startDue c v.station then startCycle c v
      else { v with station := nextSuperframe c v.station }).station.store = v.station.store := by
    intro v
    split
    · exact endAudio_store c v
    · split
      · exact startCycle_store c v
      · exact hnext _
  refine (hends _).trans ((hsuperframes _).trans ?_)
  split
  · exact (expireCycle_store c _).trans (hquiet _)
  · exact hquiet _

theorem playFrame_store (w : Work) : (playFrame c w).station.store = w.station.store := by
  unfold playFrame
  dsimp only
  split
  · split
    · split
      · rfl
      · split
        · rfl
        · exact whenDue_leaves Station.store _ (countUnderrun _) _ rfl
    · rfl
  · rfl

theorem cycleLeave_store (tag : BitVec 8) : (cycleLeave c tag s).store = s.store := by
  unfold cycleLeave
  split <;> rfl

/-! ### The boundary and the play positions (R2, R43, R78, R154) -/

theorem listeningBoundary_store (w : Work) : (listeningBoundary w).station.store = w.station.store := by
  unfold listeningBoundary
  dsimp only
  split
  · split <;> rfl
  · rfl

theorem boundaryWork_store (resumed : Bool) : (boundaryWork resumed s).station.store = s.store := by
  have hchannels : (eachChannel cycleBoundary (eachChannel toneBoundary
      (Work.begin { s with table := s.table.atBoundary }))).station.store = s.store :=
    (eachChannel_leaves (fun w : Work => w.station.store) cycleBoundary cycleBoundary_store _).trans
      (eachChannel_leaves (fun w : Work => w.station.store) toneBoundary toneBoundary_store _)
  unfold boundaryWork
  dsimp only
  generalize eachChannel cycleBoundary _ = w at hchannels ⊢
  obtain ⟨m, ps, hmonitor⟩ := monitorBoundary_changes w
  rw [hmonitor]
  split
  · exact (startSearch_store _).trans hchannels
  · exact (listeningBoundary_store _).trans ((startSearch_store _).trans hchannels)

theorem boundaryBefore_store (isBoundary resumed : Bool) :
    (boundaryBefore isBoundary resumed s).station.store = s.store := by
  unfold boundaryBefore
  split
  · exact boundaryWork_store s resumed
  · rfl

theorem playAll_store : (playAll s).store = s.store :=
  (postAll_store _ _).trans (eachChannel_leaves (fun w : Work => w.station.store) playFrame playFrame_store _)

/-! ### Offers (R55, R67 to R70) -/

theorem joinPosition_store : (joinPosition s).store = s.store := by
  unfold joinPosition
  split
  · split
    · unfold joinReply makeBid
      split
      · split <;> rfl
      · rfl
    · rfl
  · rfl

theorem bindToChannel_store (o : Offer) : (bindToChannel o s).store = s.store := by
  unfold bindToChannel
  split <;> rfl

theorem bindExisting_store (others : List Word) : (bindExisting others s).store = s.store := by
  unfold bindExisting
  split
  · split
    · rfl
    · exact bindToChannel_store _ _
  · rfl

theorem refuseTake_store : (refuseTake c s).store = s.store := by
  unfold refuseTake
  split
  · rfl
  · exact post_store _ s

theorem bindNewOffer_store (o : Offer) : (bindNewOffer o s).store = s.store := by
  unfold bindNewOffer
  split
  · split
    · unfold bindNewTone
      split
      · split <;> rfl
      · rfl
    · unfold bindNewCycle
      split
      · split <;> rfl
      · rfl
  · exact refuseTake_store _ s

theorem bindNew_store (others : List Word) : (bindNew others s).store = s.store := by
  unfold bindNew
  split
  · split
    · exact bindNewOffer_store _ _
    · rfl
  · rfl

theorem loseOffer_store (others : List Word) : (loseOffer others s).store = s.store := by
  unfold loseOffer
  split <;> rfl

/-! ### Orders that enter no other state (R37, R40, R41, R162, R167) -/

theorem leavePosition_store : (leavePosition s).store = s.store := by
  have hleave : ∀ tag c (s : Station), (leaveChannel tag c s).store = s.store := fun tag c s => by
    unfold leaveChannel
    split
    · exact toneLeave_store c s
    · exact cycleLeave_store c s tag
    · rfl
  unfold leavePosition
  split
  · split
    · unfold applyLeave
      split
      · exact hleave _ _ _
      · rfl
    · rfl
  · rfl

/-- An addressed order leaves the store that its acceptance leaves (R37). -/
theorem answer_store (station : Nat) (refusal : Option Reason) (accept : Station → Station)
    (haccept : (accept s).store = s.store) : (answer station refusal accept s).store = s.store := by
  unfold answer
  split
  · split
    · rfl
    · exact haccept
  · rfl

theorem probePosition_store : (probePosition s).store = s.store := by
  unfold probePosition
  split
  · split
    · exact answer_store _ _ _ _ rfl
    · rfl
  · rfl

theorem acceptRecord_store (id cls : Nat) (between : Option (List OwnerCode)) :
    (acceptRecord id cls between s).store = s.store := by
  have hbetween : ∀ c (s : Station), (betweenPosition between c s).store = s.store := fun c s => by
    cases between with
    | none => rfl
    | some others => exact whenDue_leaves Station.store _ _ s (ownerPosition_store c s others)
  have hbegin : ∀ c (s : Station), (beginRecording id cls c s).store = s.store := fun c s => by
    unfold beginRecording
    split
    · rfl
    · exact refuseTake_store c s
  unfold acceptRecord
  split
  · rfl
  · exact (hbegin _ _).trans (hbetween _ _)

theorem recordPosition_store (between : Option (List OwnerCode)) : (recordPosition between s).store = s.store := by
  unfold recordPosition
  split
  · split
    · exact answer_store _ _ _ _ (acceptRecord_store _ _ _ between)
    · rfl
  · rfl

theorem finishPosition_store (action : FinishAction) (accept : Station → Station)
    (haccept : ∀ s, (accept s).store = s.store) : (finishPosition action accept s).store = s.store := by
  unfold finishPosition
  split
  · split
    · split
      · exact answer_store _ _ _ _ (haccept _)
      · rfl
    · rfl
  · rfl

theorem acceptCommit_store : (acceptCommit s).store = s.store := by
  unfold acceptCommit
  split
  · rfl
  · exact commitRecording_store _

theorem acceptDiscard_store : (acceptDiscard s).store = s.store := discardRecording_store _

end

end Sys2Proof.Machine
end

/-! The contents of the store in their one form (R135): entering HALTED empties them, and of the commands of the
controller a PUT alone writes, within the store. -/
section
namespace Sys2Proof.Machine

/-- `contentsOk` of the station alone. -/
def Station.InForm (s : Station) : Prop := s.store.memory.wf = true

section
variable {s t : Station}

theorem Station.InForm.same (h : s.InForm) (hmemory : t.store.memory = s.store.memory) : t.InForm := by
  rwa [InForm, hmemory]

theorem Station.InForm.stands (h : s.InForm) (hstore : t.store = s.store) : t.InForm := h.same (by rw [hstore])

theorem Station.InForm.whenDue (h : s.InForm) (due : Bool) {f : Station → Station}
    (hf : due = true → s.InForm → (f s).InForm) : (Machine.whenDue due f s).InForm :=
  whenDue_keeps Station.InForm due f s hf h

theorem enterHalted_inForm (s : Station) : (enterHalted s).InForm := halt_memory_wf s.store

/-! ### Frames and resets (R6, R16, R42, R51) -/

theorem storeFrame_memory (s : Station) : (storeFrame s).store.memory = s.store.memory := by
  obtain ⟨n, d, w, h⟩ := storeFrame_changes s
  rw [h]

theorem clearGrade_store (s : Station) : (clearGrade s).store = s.store := by
  obtain ⟨m, h, -⟩ := clearGrade_changes s
  rw [h]

theorem pulseLoss_inForm (h : s.InForm) : (pulseLoss s).InForm := by
  refine Station.InForm.same (s := if s.orders.countdown.isSome then enterHalted _ else _) ?_ (storeFrame_memory _)
  split
  · exact enterHalted_inForm _
  · exact h.stands (clearGrade_store s)

theorem shelfReset_inForm (h : s.InForm) : (shelfReset s).InForm := by
  unfold shelfReset
  dsimp only
  split
  · exact enterHalted_inForm _
  · exact h.stands (clearGrade_store s)

theorem orderPosition_inForm (word : Word) (h : s.InForm) : (orderPosition word s).InForm := by
  have hcount : (countBreak word s).InForm := h
  exact hcount.whenDue (breakDue (countBreak word s)) fun _ => shelfReset_inForm

theorem startFrame_inForm (number : Nat) (h : s.InForm) : (startFrame number s).InForm := by
  have hopen : (openFrame number s).InForm := h
  have hstep : (stepCountdown (openFrame number s)).InForm := by
    unfold stepCountdown
    split
    · exact hopen
    · exact whenDue_keeps Station.InForm _ _ _ (fun _ _ => enterHalted_inForm _) hopen
  exact hstep.same (storeFrame_memory _)

theorem ageBackOff_store (s : Station) : (ageBackOff s).store = s.store := rfl

theorem drainCheck_inForm (h : s.InForm) : (drainCheck s).InForm := by
  unfold drainCheck
  split
  · have hresting : (enterResting s).InForm := h
    exact hresting.stands (post_store _ _)
  · exact h

theorem frameWork_inForm (h : s.InForm) : (frameWork s).InForm := by
  have htones : (eachChannel toneFrame s).store = s.store := eachChannel_leaves Station.store toneFrame toneFrame_store s
  exact drainCheck_inForm (h.stands (by rw [claim_store, releaseAndStart_store, ageBackOff_store, htones]))

theorem Station.InForm.draw (h : s.InForm) (n : Nat) : ({ s with draw := n } : Station).InForm := h

theorem acceptPulse_inForm (long : Bool) (h : s.InForm) : (acceptPulse long s).InForm := by
  have frame_inForm : ∀ (w : Work) (number : Nat) (ps : List Notice) (target : Nat) (cs : List Channel),
      w.station.InForm →
      (playAll (frameWork (returnAll target cs (startFrame number (postAll ps w.station))))).InForm := by
    intro w number ps target cs hw
    have hstart := startFrame_inForm number (hw.stands (postAll_store ps w.station))
    exact (frameWork_inForm (hstart.stands (returnAll_store target cs _))).stands (playAll_store _)
  have hresumed : (whenDue (resumes s) resume s).InForm := h.whenDue _ fun _ h => h
  unfold acceptPulse
  exact (frame_inForm _ _ _ _ _ (hresumed.stands (boundaryBefore_store _ _ _))).draw _

/-! ### SERVICE and notices (R44 to R48, R53) -/

theorem drain_inForm (h : s.InForm) : (drain s).InForm := by
  unfold drain
  split
  · obtain ⟨t, f, heq⟩ := drainAllStanding_changes (enterState .draining s)
    rw [heq]
    exact h
  · exact h

theorem bringBack_inForm (h : s.InForm) : (bringBack s).InForm := by
  unfold bringBack
  split <;> exact h

theorem servicePosition_inForm (action : ServiceAction) {act : Station → Station}
    (hact : ∀ {s : Station}, s.InForm → (act s).InForm) (h : s.InForm) : (servicePosition action act s).InForm := by
  unfold servicePosition
  split
  · split
    · split
      · unfold answer
        split
        · split
          · exact h
          · unfold acceptService
            split
            · exact h
            · exact hact h
        · exact h
      · exact h
    · exact h
  · exact h

theorem noticeOutcome_inForm (others : List Word) (h : s.InForm) : (noticeOutcome others s).InForm := by
  have hsettle : ∀ n won, (settleNotice n won s).InForm := fun n won =>
    whenDue_keeps Station.InForm _ enterHalted _ (fun _ _ => enterHalted_inForm _) h
  unfold noticeOutcome
  split
  · exact hsettle _ _
  · exact h

theorem noticePosition_inForm (event : NoticeEvent) (h : s.InForm) : (noticePosition event s).InForm := by
  have hdrive : (driveNotice s).InForm := by
    unfold driveNotice
    dsimp only
    split <;> exact h
  cases event with
  | whole others => exact h.whenDue _ fun _ _ => noticeOutcome_inForm others hdrive
  | drive => exact h.whenDue _ fun _ _ => hdrive
  | outcome others => exact noticeOutcome_inForm others h

/-! ### The loader (R171 to R176) -/

theorem headerByte_inForm (b : Byte) (h : s.InForm) : (headerByte b s).InForm := by
  unfold headerByte
  dsimp only
  split
  · split
    · exact h
    · exact enterHalted_inForm _
  · split
    · split
      · exact enterHalted_inForm _
      · exact h
    · exact h

theorem checkImage_inForm (h : s.InForm) : (checkImage s).InForm := by
  unfold checkImage
  dsimp only
  split
  · exact enterHalted_inForm _
  · exact h

theorem takeFlashByte_inForm (b : Byte) (h : s.InForm) : (takeFlashByte b s).InForm := by
  have hcrc : (crcByteRead b s).InForm := by
    unfold crcByteRead
    dsimp only
    split
    · exact checkImage_inForm h
    · exact h
  have haudio : (audioByte b s).InForm := by
    unfold audioByte
    split <;> exact h
  unfold takeFlashByte
  split
  · split
    · exact headerByte_inForm b h
    · exact h
    · exact hcrc
    · exact haudio
    · exact h
  · exact h

/-! ### The store step (R135, R137, R143) -/

/-- A burst of a row of the store, written, keeps the contents in form: its sixteen cells lie in the store (R135). -/
theorem writeBurst_inForm (a : Nat) (close : Bool) (codes : List Code) (hrow : a / 512 < 8192)
    (hcodes : codes.length ≤ 16) (h : s.InForm) : (writeBurst a close codes s).InForm :=
  Memory.writeAll_wf codes _ _ (by unfold cellCount; omega) h

/-- A PUT that keeps the rules names a row of the store, and gives sixteen codes at most (R135, R138, R165, R176). -/
theorem doPut_inForm (who : Requester) (close : Bool) (hrow : requestAddress s who / 512 < 8192)
    (hhand : who = .loader → s.loader.hand.length ≤ 16) (h : s.InForm) : (doPut who close s).InForm := by
  cases who with
  | engine e => exact h
  | recorder =>
    cases hr : s.recorder with
    | none => simpa [doPut, hr] using h
    | some r =>
      have haddress : requestAddress s .recorder = recordAddress s r := by simp [requestAddress, hr]
      obtain ⟨q, t, hput⟩ := recorderPut_changes (writeBurst (recordAddress s r) close (r.ring.take 16) s)
      simp only [doPut, hr, hput]
      exact writeBurst_inForm _ close _ (haddress ▸ hrow) (List.length_take_le _ _) h
  | loader =>
    obtain ⟨o, l, hput⟩ := loaderPut_changes (writeBurst (loaderAddress s) close s.loader.hand s)
    simp only [doPut, hput]
    exact writeBurst_inForm _ close _ hrow (hhand rfl) h

theorem doFetch_memory (e : Fin 16) (close : Bool) (s : Station) :
    (doFetch e close s).store.memory = s.store.memory := by
  cases he : engineAt s e with
  | none => simp [doFetch, he]
  | some eng =>
    rw [doFetch_bound e close s eng he]
    rfl

/-- The command decided at a step keeps the rules, so a PUT among them writes within the store (R135, R138). -/
theorem performDecision_inForm (h : s.InForm) : (performDecision (decideStep s) s).InForm := by
  cases hcmd : (decideStep s).cmd with
  | none =>
    simp only [performDecision, hcmd]
    exact h
  | some cmd =>
    simp only [performDecision, hcmd]
    refine Station.InForm.same
      (s := performCmd cmd { s with store := { s.store with work := (decideStep s).work } }) ?_ rfl
    cases cmd with
    | put who close =>
      obtain ⟨⟨-, hrow, -⟩, -⟩ := decideStep_keeps s _ hcmd
      refine doPut_inForm (s := { s with store := { s.store with work := (decideStep s).work } }) who close hrow
        (fun hwho => ?_) h
      subst hwho
      have hasks := decideStep_loaderRequests s close hcmd
      simp only [loaderRequests, Bool.and_eq_true, decide_eq_true_eq] at hasks
      exact hasks.2.le
    | fetch e close => exact h.same (doFetch_memory e close _)
    | openRow b row => exact h
    | close b => exact h
    | renew => exact h
    | setup latency => exact h
    | selfRenewEntry => exact h
    | selfRenewExit => exact h

theorem prepareStep_inForm (h : s.InForm) : (prepareStep s).InForm := h.same (prepareStep_memory s)

theorem decideAndCarry_inForm (h : s.InForm) : (decideAndCarry s).InForm := by
  have hwrapped : (wrapEngines s).InForm := h.stands (wrapEngines_store s)
  exact (performDecision_inForm hwrapped).stands
    (decideAndCarry_part Station.store (fun _ _ => rfl) (fun _ _ => rfl) s _ rfl)

theorem closeStep_inForm (h : s.InForm) : (closeStep s).InForm := by
  obtain ⟨q, st, heq⟩ := closeStore_changes s
  rw [closeStep, heq]
  exact h

theorem wholeStep_inForm (h : s.InForm) : (wholeStep s).InForm := by
  rw [wholeStep_eq]
  refine closeStep_inForm ?_
  by_cases hissued : s.store.issued = none
  · rw [stepCarried_free s hissued]
    exact decideAndCarry_inForm (prepareStep_inForm h)
  · rw [stepCarried_issued s hissued]
    exact (prepareStep_inForm h).stands (wrapEngines_store _)

theorem issueNow_inForm (cmd : StoreCmd) (h : s.InForm) : (issueNow cmd s).InForm := by
  unfold issueNow
  split
  · exact decideAndCarry_inForm (prepareStep_inForm h)
  · exact h

theorem issuePut_inForm (close : Bool) (h : s.InForm) : (issuePut close s).InForm := by
  unfold issuePut
  split
  · split
    · exact issueNow_inForm _ h
    · exact h
  · exact h

theorem issueSetup_inForm (h : s.InForm) : (issueSetup s).InForm := by
  unfold issueSetup
  split
  · exact issueNow_inForm _ h
  · exact h

theorem framePulse_inForm (long inStep : Bool) (h : s.InForm) : (framePulse long inStep s).InForm := by
  unfold framePulse
  split
  · exact h
  · exact acceptPulse_inForm long (h.whenDue _ fun _ => wholeStep_inForm)

theorem arrivals_memory (s : Station) : (arrivals s).store.memory = s.store.memory := by
  obtain ⟨e, heq⟩ := arrivals_changes s
  rw [heq]

end

/-! ### Every command -/

section
variable {s t : State}

theorem run_inForm {f : Station → Station} (hrun : s.run f = .next t) (hf : (f s.toStation).InForm) :
    t.toStation.InForm := by
  rw [State.run_next s t f hrun]
  exact hf

variable (h : s.toStation.InForm)
include h

/-- An event that leaves the store, where it is due. -/
theorem runDue_inForm {due : Station → Bool} {f : Station → Station}
    (hrun : s.run (fun s => whenDue (due s) f s) = .next t) (hf : (f s.toStation).store = s.store) :
    t.toStation.InForm :=
  run_inForm hrun (h.stands (whenDue_leaves Station.store _ f _ hf))

/-- An event of one channel, where it is due, leaves the store. -/
theorem runChannelDue_inForm {c : Nat} {due : Channel → Station → Bool} {f : Channel → Station → Station}
    (hrun : s.runChannel c (fun c s => whenDue (due c s) (f c) s) = .next t)
    (hf : ∀ c s, (f c s).store = s.store) : t.toStation.InForm := by
  obtain ⟨hc, rfl⟩ := State.runChannel_next s t c _ hrun
  exact h.stands (whenDue_leaves Station.store _ _ _ (hf _ _))

theorem runBank_inForm {b : Nat} {f : Fin 8 → Station → Station} (hrun : s.runBank b f = .next t)
    (hf : ∀ b {s : Station}, s.InForm → (f b s).InForm) : t.toStation.InForm := by
  obtain ⟨hb, rfl⟩ := State.runBank_next s t b f hrun
  exact hf _ h

theorem runEngine_inForm {e : Nat} {f : Fin 16 → Station → Station} (hrun : s.runEngine e f = .next t)
    (hf : ∀ e {s : Station}, s.InForm → (f e s).InForm) : t.toStation.InForm := by
  obtain ⟨he, rfl⟩ := State.runEngine_next s t e f hrun
  exact hf _ h

/-- Every command keeps the contents of the store in form. -/
theorem exec_inForm {i : Instr} (hexec : exec i s = .next t) : t.toStation.InForm := by
  cases i with simp only [exec] at hexec
  | pinReset pins => exact run_inForm hexec reset_memory_wf
  | framePulse pulse => exact run_inForm hexec (framePulse_inForm _ _ h)
  | pulseLoss => exact run_inForm hexec (h.whenDue _ fun _ => pulseLoss_inForm)
  | localFrame => exact run_inForm hexec (h.whenDue _ fun _ h => h.same (storeFrame_memory _))
  | storeStep => exact run_inForm hexec ((wholeStep_inForm h).whenDue _ fun _ => pulseLoss_inForm)
  | ownerPosition n others => exact runChannelDue_inForm h hexec fun c s => ownerPosition_store c s others
  | samplePosition n others => exact runChannelDue_inForm h hexec fun c s => samplePosition_store c s others
  | contentionSurrender n => exact runChannelDue_inForm h hexec fun c s => loseChannel_store c s 15
  | orderPosition word => exact run_inForm hexec (h.whenDue _ fun _ => orderPosition_inForm word)
  | shelfReset => exact run_inForm hexec (h.whenDue _ fun _ => shelfReset_inForm)
  | join => exact run_inForm hexec (h.stands (joinPosition_store _))
  | leave => exact run_inForm hexec (h.stands (leavePosition_store _))
  | probe => exact run_inForm hexec (h.stands (probePosition_store _))
  | record between => exact run_inForm hexec (h.stands (recordPosition_store _ between))
  | finishCommit => exact run_inForm hexec (h.stands (finishPosition_store _ _ _ acceptCommit_store))
  | finishDiscard => exact run_inForm hexec (h.stands (finishPosition_store _ _ _ acceptDiscard_store))
  | serviceDrain => exact run_inForm hexec (servicePosition_inForm _ drain_inForm h)
  | serviceForce => exact run_inForm hexec (servicePosition_inForm _ (fun h => h) h)
  | serviceReturn => exact run_inForm hexec (servicePosition_inForm _ bringBack_inForm h)
  | serviceNone => exact run_inForm hexec (servicePosition_inForm _ id h)
  | noticePosition event => exact run_inForm hexec (noticePosition_inForm event h)
  | bindExisting others => exact run_inForm hexec (h.stands (bindExisting_store _ others))
  | bindNew others => exact run_inForm hexec (h.stands (bindNew_store _ others))
  | offerLost others => exact run_inForm hexec (h.stands (loseOffer_store _ others))
  | backOffExpiry n => exact runChannelDue_inForm h hexec fun _ _ => rfl
  | stepExpiry n => exact runChannelDue_inForm h hexec expireStep_store
  | toneQuietExpiry n =>
    exact runChannelDue_inForm h hexec fun c s => (Work.finish_store _).trans (expireTone_store c (.begin s))
  | cycleQuietExpiry n =>
    exact runChannelDue_inForm h hexec fun c s => (Work.finish_store _).trans (expireCycle_store c (.begin s))
  | audioEnd n =>
    exact runChannelDue_inForm h hexec fun c s => (Work.finish_store _).trans (endAudio_store c (.begin s))
  | startBoundary n =>
    exact runChannelDue_inForm h hexec fun c s => (Work.finish_store _).trans (startCycle_store c (.begin s))
  | gradeFall => exact runDue_inForm h hexec (post_store _ _)
  | listeningComplete => exact runDue_inForm h hexec (post_store _ _)
  | haltCountdownEnd => exact run_inForm hexec (h.whenDue _ fun _ _ => enterHalted_inForm _)
  | openRow b row =>
    unfold execOpen at hexec
    split at hexec
    · exact runBank_inForm h hexec fun _ _ => issueNow_inForm _
    · cases hexec
  | fetch n => exact runEngine_inForm h hexec fun _ _ => issueNow_inForm _
  | fetchClose n => exact runEngine_inForm h hexec fun _ _ => issueNow_inForm _
  | put => exact run_inForm hexec (issuePut_inForm _ h)
  | putClose => exact run_inForm hexec (issuePut_inForm _ h)
  | close b => exact runBank_inForm h hexec fun _ _ => issueNow_inForm _
  | renew => exact run_inForm hexec (issueNow_inForm _ h)
  | setup => exact run_inForm hexec (issueSetup_inForm h)
  | selfRenewEntry => exact run_inForm hexec (issueNow_inForm _ h)
  | selfRenewExit => exact run_inForm hexec (issueNow_inForm _ h)
  | pendingClose b => exact runBank_inForm h hexec fun _ _ h => h.whenDue _ fun _ h => h
  | storeQuietEnd => exact run_inForm hexec (h.whenDue _ fun _ h => h)
  | fetchDataArrival => exact run_inForm hexec (h.whenDue _ fun _ h => h.same (arrivals_memory _))
  | renewDebtRise => exact run_inForm hexec (h.whenDue _ fun _ h => h)
  | captureStart => exact runDue_inForm h hexec (startCapture_store _)
  | endSilenceStop => exact runDue_inForm h hexec (stopCapture_store _)
  | fullAreaStop => exact runDue_inForm h hexec (stopCapture_store _)
  | flashByte byte => exact run_inForm hexec (takeFlashByte_inForm byte h)

end

end Sys2Proof.Machine

namespace Sys2Proof.Proofs
open Sys2Proof Sys2Proof.Machine

/-- Settles O57: most commands leave the contents, a halt and a pin reset empty them, and a PUT, which the controller
decides only where it keeps the rules, writes within the store. -/
theorem stepKeepsTheContentsInForm : Obligations.StepKeepsTheContentsInForm := by
  intro s t hs hstep
  unfold step at hstep
  split at hstep
  next =>
    cases hstep
    exact hs
  next command rest _ => exact exec_inForm (s := { s with pending := rest }) hs hstep

end Sys2Proof.Proofs
end

/-! The commands of the controller that touch the store alone, as it decides them (R137, R140, R145, R148 to R150). -/
section
namespace Sys2Proof.Machine

/-! ### A command that touches the store alone (R137, R143) -/

theorem performDecision_storeAlone (d : Decision) (cmd : StoreCmd) (f : Store → Store) (s : Station)
    (hcmd : d.cmd = some cmd) (hf : ∀ t : Station, performCmd cmd t = { t with store := f t.store }) :
    ∃ bus, performDecision d s = { s with store := (f { s.store with work := d.work }).carry cmd bus } :=
  ⟨busCommand { s with store := { s.store with work := d.work } } cmd, by simp only [performDecision, hcmd, hf]⟩

/-- What a command carried at the step in progress makes of the station, where it makes `f` of the store and touches no
other block but the engines, which wrap: `p` is the store as the step's due events leave it, and the renew work of the
decision is left open. -/
structure StoreCommanded (cmd : StoreCmd) (f : Store → Store) (p : Store) (s t : Station) : Prop where
  store : ∃ work bus, t.store = (f { p with work := work }).carry cmd bus
  table : t.table = s.table
  tables : t.tables = s.tables
  monitor : t.monitor = s.monitor
  recorder : t.recorder = s.recorder

theorem issueNow_storeCommanded (cmd : StoreCmd) (f : Store → Store) (s : Station)
    (hf : ∀ t : Station, performCmd cmd t = { t with store := f t.store }) (h : decidedNow s = some cmd) :
    StoreCommanded cmd f (prepareStep s).store s (issueNow cmd s) := by
  have hcmd := (decidedNow_free s (issued_of_decidedNow s cmd h)).symm.trans h
  obtain ⟨e, n, hcarry⟩ := decideAndCarry_eq (prepareStep s)
  obtain ⟨bus, hperform⟩ := performDecision_storeAlone _ cmd f (wrapEngines (prepareStep s)) hcmd hf
  have hissue : issueNow cmd s = decideAndCarry (prepareStep s) := if_pos h
  have hprepared := wrapEngines_store (prepareStep s)
  obtain ⟨x, o, l, es, st, hwrapped⟩ := wrappedStep_changes s
  rw [hissue, hcarry, hperform]
  constructor
  case store => exact ⟨_, bus, by rw [hprepared]⟩
  all_goals rw [hwrapped]

/-- A command that writes no cell leaves the contents as they were before the step, and the other blocks (R135). -/
theorem StoreCommanded.kept {cmd : StoreCmd} {f : Store → Store} {p : Store} {s t : Station}
    (h : StoreCommanded cmd f p s t) (hmemory : p.memory = s.store.memory)
    (hf : ∀ t : Store, (f t).memory = t.memory) : t.store.memory = s.store.memory ∧ t.tables = s.tables
      ∧ t.monitor = s.monitor ∧ t.recorder = s.recorder ∧ t.table = s.table := by
  obtain ⟨work, bus, hstore⟩ := h.store
  exact ⟨(congrArg Store.memory hstore).trans ((hf _).trans hmemory), h.tables, h.monitor, h.recorder, h.table⟩

/-- A row of the command table that comes about where it is decided (log entry 11). -/
theorem exec_storeCommanded (i : Instr) (s : State) (cmd : StoreCmd) (f : Store → Store) (p : Store)
    (hp : (prepareStep s.toStation).store = p)
    (hexec : exec i s = .next ⟨issueNow cmd s.toStation, s.pending⟩)
    (hf : ∀ t : Station, performCmd cmd t = { t with store := f t.store }) (h : decidedNow s.toStation = some cmd) :
    ∃ t, exec i s = .next ⟨t, s.pending⟩ ∧ StoreCommanded cmd f p s.toStation t :=
  ⟨_, hexec, hp ▸ issueNow_storeCommanded cmd f s.toStation hf h⟩

/-! ### OPEN and CLOSE (R137, R140) -/

theorem Store.doOpen_bank (t : Store) (b : Fin 8) (row : Nat) : (t.doOpen b row).banks.get b =
    { t.banks.get b with openRow := some row, lastOpen := some t.step } := Tbl.get_put_same _ _ _

theorem Store.doOpen_otherBank (t : Store) (b x : Fin 8) (row : Nat) (hx : x ≠ b) :
    (t.doOpen b row).banks.get x = t.banks.get x := Tbl.get_put_ne _ _ _ _ hx.symm

/-- The step of an OPEN is in the open-window history, whatever it displaces (R140). -/
theorem Store.doOpen_opens (t : Store) (b : Fin 8) (row : Nat) : t.step ∈ (t.doOpen b row).opens := by
  simp [Store.doOpen, List.drop_append_of_le_length (Nat.sub_le t.opens.length 2)]

theorem Store.doClose_bank (t : Store) (b : Fin 8) : (t.doClose b).banks.get b =
    { t.banks.get b with openRow := none, lastClose := some t.step } := Tbl.get_put_same _ _ _

theorem Store.doClose_otherBank (t : Store) (b x : Fin 8) (hx : x ≠ b) :
    (t.doClose b).banks.get x = t.banks.get x := Tbl.get_put_ne _ _ _ _ hx.symm

theorem State.runBank_val (s : State) (b : Fin 8) (f : Fin 8 → Station → Station) :
    s.runBank b.val f = .next ⟨f b s.toStation, s.pending⟩ := dif_pos b.isLt

theorem exec_openRow (s : State) (b : Fin 8) (row : Nat) (h : row < 8192) :
    exec (.openRow b.val row) s = .next ⟨issueNow (.openRow b row) s.toStation, s.pending⟩ :=
  (execOpen_row b.val row s h).trans (s.runBank_val b _)

theorem exec_close (s : State) (b : Fin 8) :
    exec (.close b.val) s = .next ⟨issueNow (.close b) s.toStation, s.pending⟩ := by
  simp only [exec, execClose, State.runBank_val]

theorem exec_setup (s : State) (latency : Nat) (h : decidedNow s.toStation = some (.setup latency)) :
    exec .setup s = .next ⟨issueNow (.setup latency) s.toStation, s.pending⟩ := by
  simp [exec, execSetup, issueSetup, h]

end Sys2Proof.Machine

namespace Sys2Proof.Proofs
open Sys2Proof Sys2Proof.Machine

/-- Settles O47: the bank record that the command writes, in the store that the step's due events leave. -/
theorem openAndCloseChangeTheBank : Obligations.OpenAndCloseChangeTheBank := by
  intro s b
  have hstep := prepareStep_step s.toStation
  have hmemory := prepareStep_memory s.toStation
  generalize hp : (prepareStep s.toStation).store = p at hstep hmemory ⊢
  refine ⟨fun row hrow hdecided => ?_, fun hdecided => ?_⟩
  · obtain ⟨t, hexec, ⟨work, bus, hstore⟩, htable, htables, hmonitor, hrecorder⟩ :=
      exec_storeCommanded _ s _ (·.doOpen b row) p hp (exec_openRow s b row hrow) (fun _ => rfl) hdecided
    have hbank := Store.doOpen_bank { p with work := work } b row
    have hopens := Store.doOpen_opens { p with work := work } b row
    have hother := fun x => Store.doOpen_otherBank { p with work := work } b x row
    refine ⟨_, hexec, ?_⟩
    dsimp only
    rw [hstore, ← hstep, ← hmemory]
    exact ⟨congrArg Bank.openRow hbank, congrArg Bank.lastOpen hbank, hopens, rfl, rfl, htable, htables, hmonitor,
      hrecorder, hother⟩
  · obtain ⟨t, hexec, ⟨work, bus, hstore⟩, htable, htables, hmonitor, hrecorder⟩ :=
      exec_storeCommanded _ s _ (·.doClose b) p hp (exec_close s b) (fun _ => rfl) hdecided
    have hbank := Store.doClose_bank { p with work := work } b
    have hother := fun x => Store.doClose_otherBank { p with work := work } b x
    refine ⟨_, hexec, ?_⟩
    dsimp only
    rw [hstore, ← hstep, ← hmemory]
    exact ⟨congrArg Bank.openRow hbank, congrArg Bank.lastClose hbank, rfl, rfl, htable, htables, hmonitor, hrecorder,
      hother⟩

/-- Settles O50: each command's own fields of the store, with the contents and the other blocks left. -/
theorem renewAndSetupChangeTheStore : Obligations.RenewAndSetupChangeTheStore := by
  intro s
  have hmemory := prepareStep_memory s.toStation
  generalize hp : (prepareStep s.toStation).store = p at hmemory ⊢
  refine ⟨fun hdecided => ?_, fun latency hdecided => ?_, fun hdecided => ?_, fun hdecided => ?_⟩
  · obtain ⟨t, hexec, ht⟩ := exec_storeCommanded .renew s _ Store.doRenew p hp rfl (fun _ => rfl) hdecided
    obtain ⟨work, bus, hstore⟩ := ht.store
    exact ⟨_, hexec, congrArg Store.state hstore, congrArg Store.quiet hstore, congrArg Store.debt hstore,
      ht.kept hmemory fun _ => rfl⟩
  · obtain ⟨t, hexec, ht⟩ := exec_storeCommanded .setup s _ (·.doSetup latency) p hp (exec_setup s latency hdecided)
      (fun _ => rfl) hdecided
    obtain ⟨work, bus, hstore⟩ := ht.store
    exact ⟨_, hexec, congrArg Store.state hstore, congrArg Store.quiet hstore, congrArg Store.latency hstore,
      ht.kept hmemory fun _ => rfl⟩
  · obtain ⟨t, hexec, ht⟩ := exec_storeCommanded .selfRenewEntry s _ Store.doEntry p hp rfl (fun _ => rfl) hdecided
    obtain ⟨work, bus, hstore⟩ := ht.store
    exact ⟨_, hexec, congrArg Store.state hstore, congrArg Store.debt hstore, congrArg Store.frames hstore,
      ht.kept hmemory fun _ => rfl⟩
  · obtain ⟨t, hexec, ht⟩ := exec_storeCommanded .selfRenewExit s _ Store.doExit p hp rfl (fun _ => rfl) hdecided
    obtain ⟨work, bus, hstore⟩ := ht.store
    exact ⟨_, hexec, congrArg Store.state hstore, congrArg Store.quiet hstore, congrArg Store.debt hstore,
      congrArg Store.frames hstore, ht.kept hmemory fun _ => rfl⟩

end Sys2Proof.Proofs
end

/-! What comes due of itself in the store: pending closes, the end of the quiet steps and the rise of the debt (R137,
R138, R144, R146, R151). -/
section
namespace Sys2Proof.Machine

theorem closeDue_iff (b : Fin 8) (s : Station) (k : Nat) (hk : (s.store.banks.get b).pendingClose = some k) :
    closeDue b s = true ↔ k ≤ s.store.step ∧ s.store.state ≠ .stopped := by
  simp [closeDue, hk]

theorem carryClose_eq (b : Fin 8) (s : Station) (k : Nat) (hk : (s.store.banks.get b).pendingClose = some k) :
    carryClose b s = { s with store := { s.store with
      banks := s.store.banks.put b
        { s.store.banks.get b with openRow := none, pendingClose := none, lastClose := some k } } } := by
  simp [carryClose, Store.setBank, hk]

theorem quietEndDue_iff (s : Station) : quietEndDue s = true ↔
    (s.store.state = .setting ∨ s.store.state = .renewing ∨ s.store.state = .waking) ∧ s.store.quiet = 0 := by
  cases hst : s.store.state <;> simp [quietEndDue, StoreState.isQuiet, hst]

theorem exec_pendingClose (b : Fin 8) (s : State) :
    exec (.pendingClose b.val) s =
      .next ⟨whenDue (closeDue b s.toStation) (carryClose b) s.toStation, s.pending⟩ := by
  simp only [exec, execPendingClose, State.runBank_val]

theorem exec_renewDebtRise (s : State) (h : 8 ≤ s.store.frames) :
    exec .renewDebtRise s = .next ⟨riseDebt s.toStation, s.pending⟩ := by
  have hdue : riseDue s.toStation = true := decide_eq_true h
  simp [exec, execRenewDebtRise, hdue]

end Sys2Proof.Machine

namespace Sys2Proof.Proofs
open Sys2Proof Sys2Proof.Machine

/-- Settles O51: each event where it is due, and no pending close in STOPPED. -/
theorem storeEventsComeDue : Obligations.StoreEventsComeDue := by
  refine fun s => ⟨fun b k hk hstep => ⟨fun hrunning => ?_, fun hstopped => ?_⟩, fun hquiet hzero => ?_,
    fun hframes hwork => ?_, fun hframes hwork => ?_⟩
  · have hdue := (closeDue_iff b s.toStation k hk).mpr ⟨hstep, hrunning⟩
    rw [exec_pendingClose, hdue, whenDue_true, carryClose_eq b s.toStation k hk]
  · have hdue : closeDue b s.toStation = false := by
      simp [← Bool.not_eq_true, closeDue_iff b s.toStation k hk, hstopped]
    rw [exec_pendingClose, hdue, whenDue_false]
  · have hdue := (quietEndDue_iff s.toStation).mpr ⟨hquiet, hzero⟩
    simp [exec, execStoreQuietEnd, hdue, endQuiet]
  · rw [exec_renewDebtRise s hframes]
    simp [riseDebt, hwork]
  · rw [exec_renewDebtRise s hframes]
    simp [riseDebt, hwork]

end Sys2Proof.Proofs
end

/-! The bytes of an image and the fields the loader reads of them (section 13.3, R180). -/
section
namespace Sys2Proof.Machine

theorem byteAt_lt (bs : List Byte) (i : Nat) : byteAt bs i < 256 := (bs.getD i 0).isLt

theorem wordAt_lt (bs : List Byte) (i : Nat) : wordAt bs i < 65536 := by
  have hhigh := byteAt_lt bs i
  have hlow := byteAt_lt bs (i + 1)
  unfold wordAt
  omega

@[simp] theorem byteAt_drop (bs : List Byte) (n i : Nat) : byteAt (bs.drop n) i = byteAt bs (n + i) := by
  simp [byteAt]

@[simp] theorem wordAt_drop (bs : List Byte) (n i : Nat) : wordAt (bs.drop n) i = wordAt bs (n + i) := by
  simp [wordAt, Nat.add_assoc]

@[simp] theorem bitOf_iff (n b : Nat) : bitOf n b = true ↔ n / 2 ^ b % 2 = 1 := by simp [bitOf]

/-! ### The records (section 13.3, R180) -/

theorem parseComponent_at (bs : List Byte) (k : Nat) :
    componentAt bs k (parseComponent (wordAt bs k) (byteAt bs (k + 2))) := by
  have hword := wordAt_lt bs k
  refine ⟨fun habsent => if_neg (by omega), fun hpresent => ⟨_, if_pos hpresent, ?_, rfl⟩⟩
  simp only [BitVec.toNat_ofNat]
  omega

@[simp] theorem parseSets_length : ∀ (n : Nat) (bs : List Byte), (parseSets n bs).length = n
  | 0, _ => rfl
  | n + 1, bs => congrArg (· + 1) (parseSets_length n (bs.drop 6))

@[simp] theorem parseSteps_length : ∀ (n : Nat) (bs : List Byte), (parseSteps n bs).length = n
  | 0, _ => rfl
  | n + 1, bs => congrArg (· + 1) (parseSteps_length n (bs.drop 4))

/-- Set `i` of the sets at byte `k` stands `6 * i` bytes on, its second component three bytes after its first. -/
theorem parseSets_at : ∀ (n k i : Nat) (bs : List Byte) (set : ToneSet), (parseSets n (bs.drop k))[i]? = some set →
    componentAt bs (k + 6 * i) set.c1 ∧ componentAt bs (k + 3 + 6 * i) set.c2
  | 0, _, _, _, _, h => by simp [parseSets] at h
  | n + 1, k, 0, bs, set, h => by
    obtain rfl := Option.some.inj h
    simpa using And.intro (parseComponent_at bs k) (parseComponent_at bs (k + 3))
  | n + 1, k, i + 1, bs, set, h => by
    have hrest : (parseSets n (bs.drop (k + 6)))[i]? = some set := by simpa [parseSets] using h
    have ih := parseSets_at n (k + 6) i bs set hrest
    rwa [show k + 6 + 6 * i = k + 6 * (i + 1) by omega, show k + 6 + 3 + 6 * i = k + 3 + 6 * (i + 1) by omega] at ih

/-- Bit 15 of a step's duration is HOLD (R180). -/
theorem bitOf_wordAt_hold (bs : List Byte) (i : Nat) : bitOf (wordAt bs i) 15 = true ↔ 32768 ≤ wordAt bs i := by
  have hword := wordAt_lt bs i
  rw [bitOf_iff]
  omega

/-- Step `i` of the steps at byte `k` stands `4 * i` bytes on. -/
theorem parseSteps_at : ∀ (n k i : Nat) (bs : List Byte) (st : CadenceStep), (parseSteps n (bs.drop k))[i]? = some st →
    stepAt bs (k + 4 * i) st
  | 0, _, _, _, _, h => by simp [parseSteps] at h
  | n + 1, k, 0, bs, st, h => by
    obtain rfl := Option.some.inj h
    simp only [byteAt_drop, wordAt_drop, bitOf_wordAt_hold, Nat.add_zero, Nat.mul_zero]
    exact ⟨rfl, rfl, rfl⟩
  | n + 1, k, i + 1, bs, st, h => by
    have hrest : (parseSteps n (bs.drop (k + 4)))[i]? = some st := by simpa [parseSteps] using h
    have ih := parseSteps_at n (k + 4) i bs st hrest
    rwa [show k + 4 + 4 * i = k + 4 * (i + 1) by omega] at ih

theorem parsePlan_record (bs : List Byte) : planRecord bs (parsePlan bs) :=
  ⟨rfl, parseSets_length _ _, parseSteps_length _ _, rfl, fun i set => parseSets_at _ 4 i bs set,
    fun i st => parseSteps_at _ _ i bs st⟩

theorem parseEntry_record (bs : List Byte) : entryRecord bs (parseEntry bs) := by
  have htrim : (bs.getD 16 0).toInt =
      if byteAt bs 16 < 128 then (byteAt bs 16 : Int) else (byteAt bs 16 : Int) - 256 := by
    unfold byteAt
    rw [BitVec.toInt_eq_toNat_cond]
    split <;> split <;> omega
  exact ⟨rfl, by simp [parseEntry], by simp [parseEntry], by simp [parseEntry], rfl, rfl, rfl, rfl, rfl, rfl, htrim⟩

end Sys2Proof.Machine
end

/-! The checks of the image's records, each passed where its condition of R173 holds. -/
section
namespace Sys2Proof.Machine

theorem repeats_eq_false_iff (l : List Nat) : repeats l = false ↔ l.Nodup := by simp [repeats]

theorem countFault_eq_false_iff (h : List Byte) : countFault h = false ↔ countsSound h := by
  simp only [countFault, Bool.or_eq_false_iff, decide_eq_false_iff_not, Nat.not_lt, and_assoc]
  rfl

theorem classFault_eq_false_iff (h : List Byte) : classFault h = false ↔
    (byteAt h 12 = 1 ∨ byteAt h 12 = 2) ∧ (byteAt h 13 = 1 ∨ byteAt h 13 = 2)
      ∧ (byteAt h 12 = 2 → byteAt h 13 = 2) := by
  simp only [classFault, headerLatency, Bool.or_eq_false_iff, Bool.not_eq_false', Bool.or_eq_true, beq_iff_eq,
    Bool.and_eq_false_iff, beq_eq_false_iff_ne]
  omega

theorem stepFault_eq_false_iff (n : Nat) (st : CadenceStep) : stepFault n st = false ↔
    (∀ i, st.sound = some i → i < n) ∧ st.duration ≠ some 0 := by
  cases hsound : st.sound <;> simp [stepFault, hsound]

theorem planFault_eq_false_iff (p : Plan) : planFault p = false ↔ PlanSound p := by
  simp only [planFault, PlanSound, Bool.or_eq_false_iff, decide_eq_false_iff_not, List.any_eq_false,
    Bool.not_eq_true, stepFault_eq_false_iff, List.isEmpty_eq_false_iff, ← List.length_pos_iff, Nat.not_lt, Nat.not_le,
    and_assoc, Nat.succ_le_iff]

theorem entryFault_eq_false_iff (e : RawEntry) : entryFault e = false ↔ 64 ≤ e.id ∧ e.id ≤ 511 ∧ e.length ≠ 0 := by
  simp [entryFault, and_assoc]

theorem pairFault_eq_false_iff (z : Nat) (entries : List RawEntry) (pairs : List RecordPair) :
    pairFault z entries pairs = false ↔ (pairs ≠ [] → 16 ≤ z) ∧ (∀ p ∈ pairs, p.number ≤ 7)
      ∧ (pairs.map RecordPair.number).Nodup
      ∧ (∀ e ∈ entries, e.hasPair = true → (∃ p ∈ pairs, p.number = e.pairNumber) ∧ e.length ≤ z)
      ∧ ((entries.filter RawEntry.hasPair).map RawEntry.pairNumber).Nodup := by
  simp only [pairFault, Bool.or_eq_false_iff, repeats_eq_false_iff]
  have harea : (!pairs.isEmpty && decide (z < 16)) = false ↔ (pairs ≠ [] → 16 ≤ z) := by
    cases pairs <;> simp
  have hnumbers : pairs.any (fun p => decide (7 < p.number)) = false ↔ ∀ p ∈ pairs, p.number ≤ 7 := by simp
  have hnamed : (entries.filter RawEntry.hasPair).any (fun e => !pairs.any fun p => p.number == e.pairNumber) = false ↔
      ∀ e ∈ entries, e.hasPair = true → ∃ p ∈ pairs, p.number = e.pairNumber := by simp
  have hfits : (entries.filter RawEntry.hasPair).any (fun e => decide (z < e.length)) = false ↔
      ∀ e ∈ entries, e.hasPair = true → e.length ≤ z := by simp
  rw [harea, hnumbers, hnamed, hfits]
  constructor
  · rintro ⟨⟨⟨⟨⟨ha, hn⟩, ho⟩, hp⟩, hd⟩, hl⟩
    exact ⟨ha, hn, ho, fun e he hpair => ⟨hp e he hpair, hl e he hpair⟩, hd⟩
  · rintro ⟨ha, hn, ho, hp, hd⟩
    exact ⟨⟨⟨⟨⟨ha, hn⟩, ho⟩, fun e he hpair => (hp e he hpair).1⟩, hd⟩, fun e he hpair => (hp e he hpair).2⟩

/-! ### Areas (R173) -/

/-- Of two areas with bursts, the burst in common is the later of their first ones. -/
theorem Area.meets_eq_false_iff (a b : Area) (ha : 0 < a.length) (hb : 0 < b.length) :
    a.meets b = false ↔ areasApart a b := by
  simp only [Area.meets, areasApart, Bool.and_eq_false_iff, decide_eq_false_iff_not]
  constructor
  · intro h x
    omega
  · intro h
    have := h (max a.base b.base)
    omega

theorem anyMeet_eq_false_iff : ∀ l : List Area, (∀ a ∈ l, 0 < a.length) →
    (anyMeet l = false ↔ l.Pairwise areasApart)
  | [], _ => by simp [anyMeet]
  | a :: rest, h => by
    obtain ⟨ha, hrest⟩ := List.forall_mem_cons.mp h
    have hfirst : rest.any a.meets = false ↔ ∀ b ∈ rest, areasApart a b := by
      simp only [List.any_eq_false, Bool.not_eq_true]
      exact forall₂_congr fun b hb => a.meets_eq_false_iff b ha (hrest b hb)
    rw [anyMeet, Bool.or_eq_false_iff, hfirst, anyMeet_eq_false_iff rest hrest, List.pairwise_cons]

theorem areaFault_eq_false_iff (l : List Area) (h : ∀ a ∈ l, 0 < a.length) :
    areaFault l = false ↔ (∀ a ∈ l, a.base + a.length ≤ 4194304) ∧ l.Pairwise areasApart := by
  simp only [areaFault, Bool.or_eq_false_iff, List.any_eq_false, decide_eq_true_eq, Nat.not_lt,
    anyMeet_eq_false_iff l h]
  rfl

/-- Entries of a length and record pairs with an area size leave no checked area empty. -/
theorem checkedAreas_nonempty (z : Nat) (entries : List RawEntry) (pairs : List RecordPair)
    (he : ∀ e ∈ entries, e.length ≠ 0) (hp : pairs ≠ [] → 16 ≤ z) :
    ∀ a ∈ checkedAreas z entries pairs, 0 < a.length := by
  intro a ha
  rcases List.mem_append.mp ha with hown | hpair
  · obtain ⟨e, hmem, rfl⟩ := List.mem_map.mp hown
    exact Nat.pos_of_ne_zero (he e (List.mem_of_mem_filter hmem))
  · obtain ⟨p, hmem, hbase⟩ := List.mem_flatMap.mp hpair
    have hz := hp (List.ne_nil_of_mem hmem)
    rcases List.mem_pair.mp hbase with rfl | rfl <;> exact Nat.lt_of_lt_of_le (by decide) hz

/-- The image's checks pass exactly where the image is sound (R173). -/
theorem imageFault_eq_false_iff (l : Loader) : imageFault l = false ↔ ImageSound l := by
  simp only [imageFault, Bool.or_eq_false_iff, List.any_eq_false, Bool.not_eq_true, repeats_eq_false_iff,
    classFault_eq_false_iff, planFault_eq_false_iff, entryFault_eq_false_iff, pairFault_eq_false_iff]
  constructor
  · rintro ⟨⟨⟨⟨⟨⟨⟨hcls, hlatency, hclassB⟩, hplans⟩, hplanIds⟩, hentries⟩, hentryIds⟩,
      harea, hnumbers, honce, hnamed, hnamedOnce⟩, hareas⟩
    obtain ⟨hinside, hdisjoint⟩ := (areaFault_eq_false_iff _
      (checkedAreas_nonempty _ _ _ (fun e he => (hentries e he).2.2) harea)).mp hareas
    exact ⟨hcls, hlatency, hclassB, hplans, hplanIds, hentries, hentryIds, harea, hnumbers, honce, hnamed, hnamedOnce,
      hinside, hdisjoint⟩
  · intro h
    exact ⟨⟨⟨⟨⟨⟨⟨h.cls, h.latency, h.classB⟩, h.plans⟩, h.planIds⟩, h.entries⟩, h.entryIds⟩,
      h.area, h.pairNumbers, h.pairsOnce, h.pairNamed, h.pairNamedOnce⟩,
      (areaFault_eq_false_iff _ (checkedAreas_nonempty _ _ _ (fun e he => (h.entries e he).2.2) h.area)).mpr
        ⟨h.areasInside, h.disjoint⟩⟩

end Sys2Proof.Machine
end

/-! The tables the loader builds of a sound image (R174, R175). -/
section
namespace Sys2Proof.Machine

/-- The list kept so far, in the order of the library's accumulator, is what `keepFirst` has seen. -/
theorem eraseDupsBy_loop_eq_keepFirst : ∀ l seen : List Nat,
    List.eraseDupsBy.loop (· == ·) l seen = seen.reverse ++ keepFirst seen.reverse l
  | [], seen => by simp [List.eraseDupsBy.loop, keepFirst]
  | a :: rest, seen => by
    rw [List.eraseDupsBy.loop, keepFirst, List.any_beq, List.contains_reverse]
    cases seen.contains a with
    | true => exact eraseDupsBy_loop_eq_keepFirst rest seen
    | false => simpa using eraseDupsBy_loop_eq_keepFirst rest (a :: seen)

theorem keepFirst_nil (l : List Nat) : keepFirst [] l = l.eraseDups :=
  (eraseDupsBy_loop_eq_keepFirst l []).symm

theorem pairOf_none (pairs : List RecordPair) (e : RawEntry) (h : e.hasPair = false) : pairOf pairs e = none := by
  simp [pairOf, h]

/-- Pair numbers given once name one pair (R173). -/
theorem pairOf_some (pairs : List RecordPair) (e : RawEntry) (p : RecordPair)
    (honce : (pairs.map RecordPair.number).Nodup) (he : e.hasPair = true) (hp : p ∈ pairs)
    (hn : p.number = e.pairNumber) : pairOf pairs e = some p := by
  rw [pairOf, if_pos he]
  cases hfind : pairs.find? (fun p => p.number == e.pairNumber) with
  | none => exact absurd (beq_iff_eq.mpr hn) (List.find?_eq_none.mp hfind p hp)
  | some q =>
    have hq : q.number = e.pairNumber := by simpa using List.find?_some hfind
    rw [List.inj_on_of_nodup_map honce (List.mem_of_find?_eq_some hfind) hp (hq.trans hn.symm)]

theorem shortOf_some (entries : List RawEntry) (e : RawEntry) (h : e.hasShort = true) (hother : e.shortId ≠ e.id)
    (hnamed : ∃ x ∈ entries, x.id = e.shortId) : shortOf entries e = some e.shortId := by
  simpa [shortOf, h, hother] using hnamed

theorem shortOf_none (entries : List RawEntry) (e : RawEntry)
    (h : e.hasShort = false ∨ e.shortId = e.id ∨ ∀ x ∈ entries, x.id ≠ e.shortId) : shortOf entries e = none := by
  rcases h with hshort | hown | hunnamed
  · simp [shortOf, hshort]
  · simp [shortOf, hown]
  · have hany : (entries.any fun x => x.id == e.shortId) = false := by simpa using hunnamed
    simp [shortOf, hany]

theorem buildTables_built (l : Loader) (h : ImageSound l) : TablesBuilt l (buildTables l) where
  plans := rfl
  pairs := rfl
  poolTarget := rfl
  quietPeriod := rfl
  threshold := rfl
  endSilence := rfl
  areaSize := rfl
  congestion hnamed := if_pos (by simpa using hnamed)
  noCongestion hnone := if_neg (by simpa using hnone)
  standing := keepFirst_nil _
  count := List.length_map _
  entry i e d he hd := by
    have hbuilt : (buildTables l).directory[i]? = some (buildEntry l.entries l.pairs e) := by
      simp [buildTables, he]
    obtain rfl := Option.some.inj (hbuilt.symm.trans hd)
    refine ⟨rfl, rfl, rfl, rfl, rfl, rfl, fun hown => ?_, fun p hp hpair hn => ?_,
      shortOf_some l.entries e, shortOf_none l.entries e⟩
    · simp [buildEntry, pairOf_none l.pairs e hown]
    · simp [buildEntry, pairOf_some l.pairs e p h.pairsOnce hpair hp hn]

end Sys2Proof.Machine
end

/-! A byte of the flash, by the load phase (R171 to R173, R176). -/
section
namespace Sys2Proof.Machine

theorem exec_flashByte (b : Byte) (s : State) (t : Station) (h : takeFlashByte b s.toStation = t) :
    exec (.flashByte b) s = .next { s with toStation := t } := h ▸ rfl

/-- A byte that halts the station, the loader standing at `l`: only the order unit and the store change beside the
loader, an UNSET store stays UNSET, and no SETUP is in hand (R51, R151). -/
theorem exec_flashByte_halts (b : Byte) (s : State) (l : Loader)
    (h : takeFlashByte b s.toStation = enterHalted { s.toStation with loader := l }) :
    ∃ t, exec (.flashByte b) s = .next t ∧ t.orders.state = .halted
      ∧ t = { s with loader := t.loader, orders := t.orders, store := t.store }
      ∧ (s.store.state = .unset → t.store.state = .unset) ∧ t.store.setup = none :=
  ⟨_, exec_flashByte b s _ h, rfl, rfl, fun hunset => if_pos hunset, rfl⟩

theorem takeFlashByte_notLoading (b : Byte) (s : Station) (h : s.orders.state ≠ .loading) : takeFlashByte b s = s :=
  if_neg h

/-- The loader with a record's byte added to the bytes in hand, before the record is looked at. -/
def Loader.feedRecord (l : Loader) (b : Byte) : Loader := { l.feed b with partBytes := l.partBytes ++ [b] }

theorem settleRecords_eq (l : Loader) : l.settleRecords =
    { l with phase := recordPhase l.header l.plans.length l.entries.length l.pairs.length } := by
  simp only [Loader.settleRecords, Loader.recordsDone, Bool.and_eq_true, decide_eq_true_eq, and_assoc]
  rfl

section
variable (b : Byte) (s : Station) (hs : s.orders.state = .loading)
include hs

/-! ### The header (R172, R173) -/

section
variable (hp : s.loader.phase = .header)
include hp

theorem takeFlashByte_header : takeFlashByte b s = headerByte b s := by
  simp [takeFlashByte, hs, hp]

theorem takeFlashByte_header_within (hlast : s.loader.header.length + 1 < 22) (hid : s.loader.header.length ≠ 1) :
    takeFlashByte b s =
      { s with loader := { s.loader.feed b with header := s.loader.header ++ [b] } } := by
  simp [takeFlashByte_header b s hs hp, headerByte, hid, show s.loader.header.length ≠ 21 by omega]

/-- The second byte completes the format id (R173). -/
theorem takeFlashByte_header_formatId (first : Byte) (hfirst : s.loader.header = [first]) : takeFlashByte b s =
    if 256 * first.toNat + b.toNat = 19201 then { s with loader := { s.loader.feed b with header := [first, b] } }
    else enterHalted { s with loader := { s.loader.feed b with header := [first, b] } } := by
  rw [takeFlashByte_header b s hs hp, headerByte, hfirst]
  rfl

/-- The last byte completes the counts (R173). -/
theorem takeFlashByte_header_counts (hlast : s.loader.header.length = 21) : takeFlashByte b s =
    if countFault (s.loader.header ++ [b]) then
      enterHalted { s with loader := { s.loader.feed b with header := s.loader.header ++ [b] } }
    else { s with loader := Loader.settleRecords { s.loader.feed b with header := s.loader.header ++ [b] } } := by
  simp [takeFlashByte_header b s hs hp, headerByte, hlast]

end

/-! ### The records (R172, R180) -/

theorem takeFlashByte_records (hp : s.loader.phase = .records) : takeFlashByte b s =
    { s with loader := (s.loader.feedRecord b).takeRecord } := by
  simp [takeFlashByte, hs, hp, recordByte, Loader.feedRecord]

/-! ### The stored CRC and the checks (R172 to R175) -/

section
variable (hp : s.loader.phase = .check)
include hp

theorem takeFlashByte_check : takeFlashByte b s = crcByteRead b s := by
  simp [takeFlashByte, hs, hp]

theorem takeFlashByte_check_first (hnone : s.loader.partBytes = []) : takeFlashByte b s =
    { s with loader := { s.loader with partBytes := [b], readPosition := s.loader.readPosition + 1 } } := by
  simp [takeFlashByte_check b s hs hp, crcByteRead, hnone]

theorem takeFlashByte_check_second (first : Byte) (hfirst : s.loader.partBytes = [first]) : takeFlashByte b s =
    checkImage { s with loader := { s.loader with
      partBytes := [first, b], readPosition := s.loader.readPosition + 1 } } := by
  simp [takeFlashByte_check b s hs hp, crcByteRead, hfirst]

end

/-! ### The audio (R176) -/

theorem takeFlashByte_audio (hp : s.loader.phase = .audio) : takeFlashByte b s = audioByte b s := by
  simp [takeFlashByte, hs, hp]

end

/-! ### A record short of its length is left as read, and a complete one is taken (R180) -/

section
variable (l : Loader)

theorem takeRecord_plan_partial (hplans : l.plans.length < byteAt l.header 14)
    (hshort : l.partBytes.length < 4
      ∨ l.partBytes.length < 4 + 6 * byteAt l.partBytes 1 + 4 * byteAt l.partBytes 2) : l.takeRecord = l := by
  have hlength : ¬ (planLength l.partBytes ≤ l.partBytes.length ∧ 4 ≤ l.partBytes.length) := by
    unfold planLength
    split <;> omega
  simp only [Loader.takeRecord, planCount, hplans, if_true, Bool.and_eq_true, decide_eq_true_eq, hlength, if_false]

theorem takeRecord_plan (hplans : l.plans.length < byteAt l.header 14) (hhead : 4 ≤ l.partBytes.length)
    (hlength : 4 + 6 * byteAt l.partBytes 1 + 4 * byteAt l.partBytes 2 ≤ l.partBytes.length) : l.takeRecord =
      { l with
        plans := l.plans ++ [parsePlan l.partBytes], partBytes := []
        phase := recordPhase l.header (l.plans.length + 1) l.entries.length l.pairs.length } := by
  simp [Loader.takeRecord, planCount, hplans, planLength, Nat.not_lt.mpr hhead, hhead, hlength, settleRecords_eq]

variable (hplans : byteAt l.header 14 ≤ l.plans.length)
include hplans

theorem takeRecord_entry_partial (hentries : l.entries.length < byteAt l.header 15)
    (hshort : l.partBytes.length < 17) : l.takeRecord = l := by
  simp [Loader.takeRecord, planCount, entryCount, Nat.not_lt.mpr hplans, hentries, Nat.not_le.mpr hshort]

theorem takeRecord_entry (hentries : l.entries.length < byteAt l.header 15) (hlength : 17 ≤ l.partBytes.length) :
    l.takeRecord = { l with
      entries := l.entries ++ [parseEntry l.partBytes], partBytes := []
      phase := recordPhase l.header l.plans.length (l.entries.length + 1) l.pairs.length } := by
  simp [Loader.takeRecord, planCount, entryCount, Nat.not_lt.mpr hplans, hentries, hlength, settleRecords_eq]

theorem takeRecord_pair_partial (hentries : byteAt l.header 15 ≤ l.entries.length)
    (hshort : l.partBytes.length < 9) : l.takeRecord = l := by
  simp [Loader.takeRecord, planCount, entryCount, Nat.not_lt.mpr hplans, Nat.not_lt.mpr hentries,
    Nat.not_le.mpr hshort]

theorem takeRecord_pair (hentries : byteAt l.header 15 ≤ l.entries.length) (hlength : 9 ≤ l.partBytes.length) :
    l.takeRecord = { l with
      pairs := l.pairs ++ [parsePair l.partBytes], partBytes := []
      phase := recordPhase l.header l.plans.length l.entries.length (l.pairs.length + 1) } := by
  simp [Loader.takeRecord, planCount, entryCount, Nat.not_lt.mpr hplans, Nat.not_lt.mpr hentries, hlength,
    settleRecords_eq]

end

theorem checkImage_faulty (s : Station)
    (h : wordAt s.loader.partBytes 0 ≠ s.loader.crc.toNat ∨ imageFault s.loader = true) :
    checkImage s = enterHalted s := by
  rcases h with h | h <;> simp [checkImage, h]

theorem checkImage_sound (s : Station) (hcrc : wordAt s.loader.partBytes 0 = s.loader.crc.toNat)
    (hsound : imageFault s.loader = false) : checkImage s =
      { s with
        tables := buildTables s.loader
        loader := { s.loader with phase := .audio, partBytes := [], audioEntry := 0, audioBurst := 0, hand := [] }
        store := { s.store with setup := some (byteAt s.loader.header 13) } } := by
  simp [checkImage, hcrc, hsound, headerLatency]

theorem audioByte_taken (b : Byte) (s : Station) (hentry : s.loader.audioEntry < s.tables.directory.length)
    (hhand : s.loader.hand.length < 16) : audioByte b s =
      { s with loader := { s.loader with
        hand := s.loader.hand ++ [b], readPosition := s.loader.readPosition + 1 } } := by
  simp [audioByte, Loader.wantsAudio, hentry, hhand]

theorem audioByte_untaken (b : Byte) (s : Station)
    (h : s.tables.directory.length ≤ s.loader.audioEntry ∨ 16 ≤ s.loader.hand.length) : audioByte b s = s := by
  have hwants : s.loader.wantsAudio s.tables.directory = false := by
    rcases h with hentry | hhand
    · simp [Loader.wantsAudio, Nat.not_lt.mpr hentry]
    · simp [Loader.wantsAudio, Nat.not_lt.mpr hhand]
  rw [audioByte, hwants]
  rfl

end Sys2Proof.Machine

namespace Sys2Proof.Proofs
open Sys2Proof Sys2Proof.Machine

/-- Settles O54: the byte by the load phase, the records by their layout, and the image by its checks. -/
theorem flashByteFeedsTheLoader : Obligations.FlashByteFeedsTheLoader := by
  refine fun s b => ⟨fun hs hp hlast hid => ?_, fun first hs hp hfirst hid => ?_, fun hs => ?_,
    fun first hs hp hfirst hid => ?_, fun h hs hp hlast hh => ?_, fun bs l hs hp hbs hl => ?_,
    fun hs hp hnone => ?_, fun first hs hp hfirst => ?_, fun hs hp => ?_⟩
  · exact exec_flashByte b s _ (takeFlashByte_header_within b s.toStation hs hp hlast hid)
  · obtain ⟨t, hexec, hhalted, hframe, -⟩ := exec_flashByte_halts b s _
      ((takeFlashByte_header_formatId b s.toStation hs hp first hfirst).trans (if_neg hid))
    exact ⟨t, hexec, hhalted, hframe⟩
  · exact exec_flashByte b s _ (takeFlashByte_notLoading b s.toStation hs)
  · exact exec_flashByte b s _ ((takeFlashByte_header_formatId b s.toStation hs hp first hfirst).trans (if_pos hid))
  · subst hh
    have htake := takeFlashByte_header_counts b s.toStation hs hp hlast
    refine ⟨fun hsound => ?_, fun hfault => ?_⟩
    · rw [if_neg (by simp [(countFault_eq_false_iff _).mpr hsound]), settleRecords_eq] at htake
      exact exec_flashByte b s _ htake
    · rw [← countFault_eq_false_iff, Bool.not_eq_false] at hfault
      obtain ⟨t, hexec, hhalted, hframe, -⟩ := exec_flashByte_halts b s _ (htake.trans (if_pos hfault))
      exact ⟨t, hexec, hhalted, hframe⟩
  · subst hbs hl
    have htake := takeFlashByte_records b s.toStation hs hp
    refine ⟨fun hplans => ⟨fun hshort => ?_, fun hhead hlength => ?_⟩,
      fun hplans hentries => ⟨fun hshort => ?_, fun hlength => ?_⟩,
      fun hplans hentries => ⟨fun hshort => ?_, fun hlength => ?_⟩⟩
    · rw [takeRecord_plan_partial (s.loader.feedRecord b) hplans hshort] at htake
      exact exec_flashByte b s _ htake
    · rw [takeRecord_plan (s.loader.feedRecord b) hplans hhead hlength] at htake
      exact ⟨_, parsePlan_record _, exec_flashByte b s _ htake⟩
    · rw [takeRecord_entry_partial (s.loader.feedRecord b) hplans hentries hshort] at htake
      exact exec_flashByte b s _ htake
    · rw [takeRecord_entry (s.loader.feedRecord b) hplans hentries hlength] at htake
      exact ⟨_, parseEntry_record _, exec_flashByte b s _ htake⟩
    · rw [takeRecord_pair_partial (s.loader.feedRecord b) hplans hentries hshort] at htake
      exact exec_flashByte b s _ htake
    · rw [takeRecord_pair (s.loader.feedRecord b) hplans hentries hlength] at htake
      exact exec_flashByte b s _ htake
  · exact exec_flashByte b s _ (takeFlashByte_check_first b s.toStation hs hp hnone)
  · have htake := takeFlashByte_check_second b s.toStation hs hp first hfirst
    refine ⟨fun hfault => ?_, fun hcrc hsound => ?_⟩
    · rw [← imageFault_eq_false_iff, Bool.not_eq_false] at hfault
      exact exec_flashByte_halts b s _ (htake.trans (checkImage_faulty _ hfault))
    · have hpass := (imageFault_eq_false_iff s.loader).mpr hsound
      exact ⟨_, exec_flashByte b s _ (htake.trans (checkImage_sound _ hcrc hpass)), buildTables_built _ hsound, rfl⟩
  · have htake := takeFlashByte_audio b s.toStation hs hp
    exact ⟨fun hentry hhand => exec_flashByte b s _ (htake.trans (audioByte_taken b _ hentry hhand)),
      fun huntaken => exec_flashByte b s _ (htake.trans (audioByte_untaken b _ huntaken))⟩

end Sys2Proof.Proofs
end

/-! The queue of waiting commands: a step takes the front command off it, and no command's meaning touches the rest (log
entry 13). -/
section
namespace Sys2Proof.Machine

/-! ### A meaning runs on the station, so the queue stands -/

section
variable {s t : State}

theorem State.run_pending {f : Station → Station} (hrun : s.run f = .next t) : t.pending = s.pending := by
  rw [State.run_next s t f hrun]

theorem State.runChannel_pending {c : Nat} {f : Channel → Station → Station} (hrun : s.runChannel c f = .next t) :
    t.pending = s.pending := by
  obtain ⟨_, rfl⟩ := State.runChannel_next s t c f hrun
  rfl

theorem State.runBank_pending {b : Nat} {f : Fin 8 → Station → Station} (hrun : s.runBank b f = .next t) :
    t.pending = s.pending := by
  obtain ⟨_, rfl⟩ := State.runBank_next s t b f hrun
  rfl

theorem State.runEngine_pending {e : Nat} {f : Fin 16 → Station → Station} (hrun : s.runEngine e f = .next t) :
    t.pending = s.pending := by
  obtain ⟨_, rfl⟩ := State.runEngine_next s t e f hrun
  rfl

/-- Every command leaves the queue: it runs on a channel, a bank or an engine it names, or else on the whole station. -/
theorem exec_pending {i : Instr} (hexec : exec i s = .next t) : t.pending = s.pending := by
  cases i with simp only [exec] at hexec
  | ownerPosition c others => exact State.runChannel_pending hexec
  | samplePosition c others => exact State.runChannel_pending hexec
  | contentionSurrender c => exact State.runChannel_pending hexec
  | backOffExpiry c => exact State.runChannel_pending hexec
  | stepExpiry c => exact State.runChannel_pending hexec
  | toneQuietExpiry c => exact State.runChannel_pending hexec
  | cycleQuietExpiry c => exact State.runChannel_pending hexec
  | audioEnd c => exact State.runChannel_pending hexec
  | startBoundary c => exact State.runChannel_pending hexec
  | openRow b row =>
    obtain hrow | hrow := Nat.lt_or_ge row 8192
    · rw [execOpen_row b row s hrow] at hexec
      exact State.runBank_pending hexec
    · rw [execOpen_absent b row s hrow] at hexec
      cases hexec
  | close b => exact State.runBank_pending hexec
  | pendingClose b => exact State.runBank_pending hexec
  | fetch e => exact State.runEngine_pending hexec
  | fetchClose e => exact State.runEngine_pending hexec
  | _ => exact State.run_pending hexec

end

/-! ### The step, by the queue -/

theorem step_cons (c : Instr) (s : State) : step { s with pending := c :: s.pending } = exec c s := rfl

theorem step_idle (s : State) (h : s.pending = []) : step s = .next s := by
  rw [step, h]

end Sys2Proof.Machine

namespace Sys2Proof.Proofs
open Sys2Proof Sys2Proof.Machine

/-- Settles O1: the step by the queue's two forms, and the frame of `exec` on the queue. -/
theorem stepTakesTheFrontCommand : Obligations.StepTakesTheFrontCommand :=
  ⟨step_cons, step_idle, fun _ _ _ => exec_pending⟩

end Sys2Proof.Proofs
end
